-- ==== Sys2Proof/Word.lean ====
section
/-! DEFINITION. The two word types of the machine (00_scope section 7): `u8` and `u16`. Arithmetic on them
wraps at the width of the type, which is BitVec's own arithmetic. -/

namespace Sys2Proof

/-- `u8`: an unsigned 8-bit value. -/
abbrev Byte := BitVec 8

/-- `u16`: an unsigned 16-bit value. -/
abbrev Word := BitVec 16

end Sys2Proof
end

