-- ==== Sys2Proof/WellFormed.lean ====
section
/-! DEFINITION. What is well formed. An `Instr` carries its operands at the width of its encoding, so every
term of it is well formed; what can be ill formed is a string of bytes given as one instruction: it must have
the length its format gives it (R300). Decode.lean transcribes the lengths a second time, from R303. -/

namespace Sys2Proof

/-- The formats of R300. -/
inductive Format where
  | op        -- `oooooooo`
  | opImm8    -- opcode, u8
  | opRel8    -- opcode, s8
  | opA8      -- opcode, high-page offset
  | opImm16   -- opcode, low byte, high byte
  | opIgn8    -- STOP: opcode, ignored byte
  | cb        -- prefix 0xCB, secondary opcode
  deriving DecidableEq, Repr

/-- The bytes of a format (R300's column). -/
def Format.bytes : Format → Nat
  | .op => 1
  | .opImm8 => 2
  | .opRel8 => 2
  | .opA8 => 2
  | .opImm16 => 3
  | .opIgn8 => 2
  | .cb => 2

/-- The format a first byte selects, read off the column patterns of the map R312: the immediate columns of
its quarters, the jumps and calls, and the single entries R300 names. -/
def formatOf (b : Byte) : Format :=
  let x := b.extractLsb' 6 2
  let z := b.extractLsb' 0 3
  if b = 0xCB#8 then .cb
  else if b = 0x10#8 then .opIgn8
  else if b = 0xE0#8 ∨ b = 0xF0#8 then .opA8
  else if b = 0x18#8 ∨ b = 0x20#8 ∨ b = 0x28#8 ∨ b = 0x30#8 ∨ b = 0x38#8 ∨ b = 0xE8#8 ∨ b = 0xF8#8 then .opRel8
  else if (x = 0#2 ∨ x = 3#2) ∧ z = 6#3 then .opImm8
  else if b = 0x01#8 ∨ b = 0x11#8 ∨ b = 0x21#8 ∨ b = 0x31#8 ∨ b = 0x08#8 then .opImm16
  else if b = 0xC2#8 ∨ b = 0xCA#8 ∨ b = 0xD2#8 ∨ b = 0xDA#8 ∨ b = 0xC3#8 then .opImm16
  else if b = 0xC4#8 ∨ b = 0xCC#8 ∨ b = 0xD4#8 ∨ b = 0xDC#8 ∨ b = 0xCD#8 then .opImm16
  else if b = 0xEA#8 ∨ b = 0xFA#8 then .opImm16
  else .op

/-- The bytes of exactly one instruction: there is a first byte, and as many bytes as its format says. -/
def wellFormedBytes : List Byte → Bool
  | [] => false
  | b :: rest => rest.length + 1 = (formatOf b).bytes

/-- Every term of `Instr` is well formed: each immediate is a BitVec of its field's width, and registers,
conditions, bit numbers and restart targets are part of the constructor. -/
def Instr.wellFormed (_ : Instr) : Bool := true

end Sys2Proof
end

