-- ==== Sys2Proof/Decode.lean ====
section
/-! DEFINITION. Decoding (30_encoding): from bytes to an instruction, total on any bytes, and the encoder back.
The primary table is the map R312, one row per high nibble; the secondary table is R313's, one row of eight
per operation (and bit number), the operand field z running over B, C, D, E, H, L, (HL), A. -/

namespace Sys2Proof

/-! ## The secondary map (R313) -/

/-- R313, x = 0: the rotates and shifts; one row for each y, its columns the values of z. -/
def secondary0 : List (List Instr) := [
  [.rlc_b, .rlc_c, .rlc_d, .rlc_e, .rlc_h, .rlc_l, .rlc_mhl, .rlc_a],
  [.rrc_b, .rrc_c, .rrc_d, .rrc_e, .rrc_h, .rrc_l, .rrc_mhl, .rrc_a],
  [.rl_b, .rl_c, .rl_d, .rl_e, .rl_h, .rl_l, .rl_mhl, .rl_a],
  [.rr_b, .rr_c, .rr_d, .rr_e, .rr_h, .rr_l, .rr_mhl, .rr_a],
  [.sla_b, .sla_c, .sla_d, .sla_e, .sla_h, .sla_l, .sla_mhl, .sla_a],
  [.sra_b, .sra_c, .sra_d, .sra_e, .sra_h, .sra_l, .sra_mhl, .sra_a],
  [.swap_b, .swap_c, .swap_d, .swap_e, .swap_h, .swap_l, .swap_mhl, .swap_a],
  [.srl_b, .srl_c, .srl_d, .srl_e, .srl_h, .srl_l, .srl_mhl, .srl_a]]

/-- R313, x = 1: BIT; one row for each y, its columns the values of z. -/
def secondary1 : List (List Instr) := [
  [.bit_0_b, .bit_0_c, .bit_0_d, .bit_0_e, .bit_0_h, .bit_0_l, .bit_0_mhl, .bit_0_a],
  [.bit_1_b, .bit_1_c, .bit_1_d, .bit_1_e, .bit_1_h, .bit_1_l, .bit_1_mhl, .bit_1_a],
  [.bit_2_b, .bit_2_c, .bit_2_d, .bit_2_e, .bit_2_h, .bit_2_l, .bit_2_mhl, .bit_2_a],
  [.bit_3_b, .bit_3_c, .bit_3_d, .bit_3_e, .bit_3_h, .bit_3_l, .bit_3_mhl, .bit_3_a],
  [.bit_4_b, .bit_4_c, .bit_4_d, .bit_4_e, .bit_4_h, .bit_4_l, .bit_4_mhl, .bit_4_a],
  [.bit_5_b, .bit_5_c, .bit_5_d, .bit_5_e, .bit_5_h, .bit_5_l, .bit_5_mhl, .bit_5_a],
  [.bit_6_b, .bit_6_c, .bit_6_d, .bit_6_e, .bit_6_h, .bit_6_l, .bit_6_mhl, .bit_6_a],
  [.bit_7_b, .bit_7_c, .bit_7_d, .bit_7_e, .bit_7_h, .bit_7_l, .bit_7_mhl, .bit_7_a]]

/-- R313, x = 2: RES; one row for each y, its columns the values of z. -/
def secondary2 : List (List Instr) := [
  [.res_0_b, .res_0_c, .res_0_d, .res_0_e, .res_0_h, .res_0_l, .res_0_mhl, .res_0_a],
  [.res_1_b, .res_1_c, .res_1_d, .res_1_e, .res_1_h, .res_1_l, .res_1_mhl, .res_1_a],
  [.res_2_b, .res_2_c, .res_2_d, .res_2_e, .res_2_h, .res_2_l, .res_2_mhl, .res_2_a],
  [.res_3_b, .res_3_c, .res_3_d, .res_3_e, .res_3_h, .res_3_l, .res_3_mhl, .res_3_a],
  [.res_4_b, .res_4_c, .res_4_d, .res_4_e, .res_4_h, .res_4_l, .res_4_mhl, .res_4_a],
  [.res_5_b, .res_5_c, .res_5_d, .res_5_e, .res_5_h, .res_5_l, .res_5_mhl, .res_5_a],
  [.res_6_b, .res_6_c, .res_6_d, .res_6_e, .res_6_h, .res_6_l, .res_6_mhl, .res_6_a],
  [.res_7_b, .res_7_c, .res_7_d, .res_7_e, .res_7_h, .res_7_l, .res_7_mhl, .res_7_a]]

/-- R313, x = 3: SET; one row for each y, its columns the values of z. -/
def secondary3 : List (List Instr) := [
  [.set_0_b, .set_0_c, .set_0_d, .set_0_e, .set_0_h, .set_0_l, .set_0_mhl, .set_0_a],
  [.set_1_b, .set_1_c, .set_1_d, .set_1_e, .set_1_h, .set_1_l, .set_1_mhl, .set_1_a],
  [.set_2_b, .set_2_c, .set_2_d, .set_2_e, .set_2_h, .set_2_l, .set_2_mhl, .set_2_a],
  [.set_3_b, .set_3_c, .set_3_d, .set_3_e, .set_3_h, .set_3_l, .set_3_mhl, .set_3_a],
  [.set_4_b, .set_4_c, .set_4_d, .set_4_e, .set_4_h, .set_4_l, .set_4_mhl, .set_4_a],
  [.set_5_b, .set_5_c, .set_5_d, .set_5_e, .set_5_h, .set_5_l, .set_5_mhl, .set_5_a],
  [.set_6_b, .set_6_c, .set_6_d, .set_6_e, .set_6_h, .set_6_l, .set_6_mhl, .set_6_a],
  [.set_7_b, .set_7_c, .set_7_d, .set_7_e, .set_7_h, .set_7_l, .set_7_mhl, .set_7_a]]

/-- R313: the secondary map by x. -/
def secondaryMap : List (List (List Instr)) := [secondary0, secondary1, secondary2, secondary3]

/-- The instruction behind the prefix 0xCB, by the fields x, y and z of the secondary byte (R304, R313, R316):
all 256 values are defined. -/
def secondaryOf (s _h : Byte) : Instr :=
  ((secondaryMap.getD (s.toNat / 64) []).getD (s.toNat / 8 % 8) []).getD (s.toNat % 8) .nop

/-! ## The primary map (R312) -/

/-- R312, row 0x: what an opcode does with the two bytes after it. -/
def primary0 : List (Byte → Byte → Instr) := [
  fun _ _ => .nop, fun l h => .ld_bc_nn (h ++ l), fun _ _ => .ld_mbc_a, fun _ _ => .inc_bc,
  fun _ _ => .inc_b, fun _ _ => .dec_b, fun n _ => .ld_b_n n, fun _ _ => .rlca,
  fun l h => .ld_mnn_sp (h ++ l), fun _ _ => .add_hl_bc, fun _ _ => .ld_a_mbc, fun _ _ => .dec_bc,
  fun _ _ => .inc_c, fun _ _ => .dec_c, fun n _ => .ld_c_n n, fun _ _ => .rrca]

/-- R312, row 1x: what an opcode does with the two bytes after it. -/
def primary1 : List (Byte → Byte → Instr) := [
  fun n _ => .stop n, fun l h => .ld_de_nn (h ++ l), fun _ _ => .ld_mde_a, fun _ _ => .inc_de,
  fun _ _ => .inc_d, fun _ _ => .dec_d, fun n _ => .ld_d_n n, fun _ _ => .rla,
  fun n _ => .jr_e n, fun _ _ => .add_hl_de, fun _ _ => .ld_a_mde, fun _ _ => .dec_de,
  fun _ _ => .inc_e, fun _ _ => .dec_e, fun n _ => .ld_e_n n, fun _ _ => .rra]

/-- R312, row 2x: what an opcode does with the two bytes after it. -/
def primary2 : List (Byte → Byte → Instr) := [
  fun n _ => .jr_nz_e n, fun l h => .ld_hl_nn (h ++ l), fun _ _ => .ld_mhli_a, fun _ _ => .inc_hl,
  fun _ _ => .inc_h, fun _ _ => .dec_h, fun n _ => .ld_h_n n, fun _ _ => .daa,
  fun n _ => .jr_z_e n, fun _ _ => .add_hl_hl, fun _ _ => .ld_a_mhli, fun _ _ => .dec_hl,
  fun _ _ => .inc_l, fun _ _ => .dec_l, fun n _ => .ld_l_n n, fun _ _ => .cpl]

/-- R312, row 3x: what an opcode does with the two bytes after it. -/
def primary3 : List (Byte → Byte → Instr) := [
  fun n _ => .jr_nc_e n, fun l h => .ld_sp_nn (h ++ l), fun _ _ => .ld_mhld_a, fun _ _ => .inc_sp,
  fun _ _ => .inc_mhl, fun _ _ => .dec_mhl, fun n _ => .ld_mhl_n n, fun _ _ => .scf,
  fun n _ => .jr_c_e n, fun _ _ => .add_hl_sp, fun _ _ => .ld_a_mhld, fun _ _ => .dec_sp,
  fun _ _ => .inc_a, fun _ _ => .dec_a, fun n _ => .ld_a_n n, fun _ _ => .ccf]

/-- R312, row 4x: what an opcode does with the two bytes after it. -/
def primary4 : List (Byte → Byte → Instr) := [
  fun _ _ => .ld_b_b, fun _ _ => .ld_b_c, fun _ _ => .ld_b_d, fun _ _ => .ld_b_e,
  fun _ _ => .ld_b_h, fun _ _ => .ld_b_l, fun _ _ => .ld_b_mhl, fun _ _ => .ld_b_a,
  fun _ _ => .ld_c_b, fun _ _ => .ld_c_c, fun _ _ => .ld_c_d, fun _ _ => .ld_c_e,
  fun _ _ => .ld_c_h, fun _ _ => .ld_c_l, fun _ _ => .ld_c_mhl, fun _ _ => .ld_c_a]

/-- R312, row 5x: what an opcode does with the two bytes after it. -/
def primary5 : List (Byte → Byte → Instr) := [
  fun _ _ => .ld_d_b, fun _ _ => .ld_d_c, fun _ _ => .ld_d_d, fun _ _ => .ld_d_e,
  fun _ _ => .ld_d_h, fun _ _ => .ld_d_l, fun _ _ => .ld_d_mhl, fun _ _ => .ld_d_a,
  fun _ _ => .ld_e_b, fun _ _ => .ld_e_c, fun _ _ => .ld_e_d, fun _ _ => .ld_e_e,
  fun _ _ => .ld_e_h, fun _ _ => .ld_e_l, fun _ _ => .ld_e_mhl, fun _ _ => .ld_e_a]

/-- R312, row 6x: what an opcode does with the two bytes after it. -/
def primary6 : List (Byte → Byte → Instr) := [
  fun _ _ => .ld_h_b, fun _ _ => .ld_h_c, fun _ _ => .ld_h_d, fun _ _ => .ld_h_e,
  fun _ _ => .ld_h_h, fun _ _ => .ld_h_l, fun _ _ => .ld_h_mhl, fun _ _ => .ld_h_a,
  fun _ _ => .ld_l_b, fun _ _ => .ld_l_c, fun _ _ => .ld_l_d, fun _ _ => .ld_l_e,
  fun _ _ => .ld_l_h, fun _ _ => .ld_l_l, fun _ _ => .ld_l_mhl, fun _ _ => .ld_l_a]

/-- R312, row 7x: what an opcode does with the two bytes after it. -/
def primary7 : List (Byte → Byte → Instr) := [
  fun _ _ => .ld_mhl_b, fun _ _ => .ld_mhl_c, fun _ _ => .ld_mhl_d, fun _ _ => .ld_mhl_e,
  fun _ _ => .ld_mhl_h, fun _ _ => .ld_mhl_l, fun _ _ => .halt, fun _ _ => .ld_mhl_a,
  fun _ _ => .ld_a_b, fun _ _ => .ld_a_c, fun _ _ => .ld_a_d, fun _ _ => .ld_a_e,
  fun _ _ => .ld_a_h, fun _ _ => .ld_a_l, fun _ _ => .ld_a_mhl, fun _ _ => .ld_a_a]

/-- R312, row 8x: what an opcode does with the two bytes after it. -/
def primary8 : List (Byte → Byte → Instr) := [
  fun _ _ => .add_a_b, fun _ _ => .add_a_c, fun _ _ => .add_a_d, fun _ _ => .add_a_e,
  fun _ _ => .add_a_h, fun _ _ => .add_a_l, fun _ _ => .add_a_mhl, fun _ _ => .add_a_a,
  fun _ _ => .adc_a_b, fun _ _ => .adc_a_c, fun _ _ => .adc_a_d, fun _ _ => .adc_a_e,
  fun _ _ => .adc_a_h, fun _ _ => .adc_a_l, fun _ _ => .adc_a_mhl, fun _ _ => .adc_a_a]

/-- R312, row 9x: what an opcode does with the two bytes after it. -/
def primary9 : List (Byte → Byte → Instr) := [
  fun _ _ => .sub_b, fun _ _ => .sub_c, fun _ _ => .sub_d, fun _ _ => .sub_e,
  fun _ _ => .sub_h, fun _ _ => .sub_l, fun _ _ => .sub_mhl, fun _ _ => .sub_a,
  fun _ _ => .sbc_a_b, fun _ _ => .sbc_a_c, fun _ _ => .sbc_a_d, fun _ _ => .sbc_a_e,
  fun _ _ => .sbc_a_h, fun _ _ => .sbc_a_l, fun _ _ => .sbc_a_mhl, fun _ _ => .sbc_a_a]

/-- R312, row Ax: what an opcode does with the two bytes after it. -/
def primaryA : List (Byte → Byte → Instr) := [
  fun _ _ => .and_b, fun _ _ => .and_c, fun _ _ => .and_d, fun _ _ => .and_e,
  fun _ _ => .and_h, fun _ _ => .and_l, fun _ _ => .and_mhl, fun _ _ => .and_a,
  fun _ _ => .xor_b, fun _ _ => .xor_c, fun _ _ => .xor_d, fun _ _ => .xor_e,
  fun _ _ => .xor_h, fun _ _ => .xor_l, fun _ _ => .xor_mhl, fun _ _ => .xor_a]

/-- R312, row Bx: what an opcode does with the two bytes after it. -/
def primaryB : List (Byte → Byte → Instr) := [
  fun _ _ => .or_b, fun _ _ => .or_c, fun _ _ => .or_d, fun _ _ => .or_e,
  fun _ _ => .or_h, fun _ _ => .or_l, fun _ _ => .or_mhl, fun _ _ => .or_a,
  fun _ _ => .cp_b, fun _ _ => .cp_c, fun _ _ => .cp_d, fun _ _ => .cp_e,
  fun _ _ => .cp_h, fun _ _ => .cp_l, fun _ _ => .cp_mhl, fun _ _ => .cp_a]

/-- R312, row Cx: what an opcode does with the two bytes after it. -/
def primaryC : List (Byte → Byte → Instr) := [
  fun _ _ => .ret_nz, fun _ _ => .pop_bc, fun l h => .jp_nz_nn (h ++ l), fun l h => .jp_nn (h ++ l),
  fun l h => .call_nz_nn (h ++ l), fun _ _ => .push_bc, fun n _ => .add_a_n n, fun _ _ => .rst_00,
  fun _ _ => .ret_z, fun _ _ => .ret, fun l h => .jp_z_nn (h ++ l), secondaryOf,
  fun l h => .call_z_nn (h ++ l), fun l h => .call_nn (h ++ l), fun n _ => .adc_a_n n, fun _ _ => .rst_08]

/-- R312, row Dx: what an opcode does with the two bytes after it. -/
def primaryD : List (Byte → Byte → Instr) := [
  fun _ _ => .ret_nc, fun _ _ => .pop_de, fun l h => .jp_nc_nn (h ++ l), fun _ _ => .undefined_d3,
  fun l h => .call_nc_nn (h ++ l), fun _ _ => .push_de, fun n _ => .sub_n n, fun _ _ => .rst_10,
  fun _ _ => .ret_c, fun _ _ => .reti, fun l h => .jp_c_nn (h ++ l), fun _ _ => .undefined_db,
  fun l h => .call_c_nn (h ++ l), fun _ _ => .undefined_dd, fun n _ => .sbc_a_n n, fun _ _ => .rst_18]

/-- R312, row Ex: what an opcode does with the two bytes after it. -/
def primaryE : List (Byte → Byte → Instr) := [
  fun n _ => .ldh_mn_a n, fun _ _ => .pop_hl, fun _ _ => .ld_mc_a, fun _ _ => .undefined_e3,
  fun _ _ => .undefined_e4, fun _ _ => .push_hl, fun n _ => .and_n n, fun _ _ => .rst_20,
  fun n _ => .add_sp_e n, fun _ _ => .jp_hl, fun l h => .ld_mnn_a (h ++ l), fun _ _ => .undefined_eb,
  fun _ _ => .undefined_ec, fun _ _ => .undefined_ed, fun n _ => .xor_n n, fun _ _ => .rst_28]

/-- R312, row Fx: what an opcode does with the two bytes after it. -/
def primaryF : List (Byte → Byte → Instr) := [
  fun n _ => .ldh_a_mn n, fun _ _ => .pop_af, fun _ _ => .ld_a_mc, fun _ _ => .di,
  fun _ _ => .undefined_f4, fun _ _ => .push_af, fun n _ => .or_n n, fun _ _ => .rst_30,
  fun n _ => .ld_hl_sp_e n, fun _ _ => .ld_sp_hl, fun l h => .ld_a_mnn (h ++ l), fun _ _ => .ei,
  fun _ _ => .undefined_fc, fun _ _ => .undefined_fd, fun n _ => .cp_n n, fun _ _ => .rst_38]

/-- R312: the primary map, one row for each high nibble. -/
def primaryMap : List (List (Byte → Byte → Instr)) := [
  primary0, primary1, primary2, primary3, primary4, primary5, primary6, primary7,
  primary8, primary9, primaryA, primaryB, primaryC, primaryD, primaryE, primaryF]

/-- The instruction of an opcode byte, by its two nibbles (R312), and the two bytes after it, of which its format
uses none, one or both. -/
def decode3 (b0 b1 b2 : Byte) : Instr :=
  ((primaryMap.getD (b0.toNat / 16) []).getD (b0.toNat % 16) (fun _ _ => .nop)) b1 b2

/-! ## Lengths (R303) -/

/-- R303: the first bytes of the 3-byte instructions. -/
def threeByteOpcodes : List Byte :=
  [0x01, 0x11, 0x21, 0x31, 0x08, 0xC2, 0xC3, 0xC4, 0xCA, 0xCC, 0xCD, 0xD2, 0xD4, 0xDA, 0xDC, 0xEA, 0xFA]

/-- R303: the first bytes of the 2-byte instructions. -/
def twoByteOpcodes : List Byte :=
  [0x06, 0x0E, 0x16, 0x1E, 0x26, 0x2E, 0x36, 0x3E, 0x10, 0x18, 0x20, 0x28, 0x30, 0x38] ++
  [0xC6, 0xCE, 0xD6, 0xDE, 0xE6, 0xEE, 0xF6, 0xFE, 0xE0, 0xF0, 0xE8, 0xF8, 0xCB]

/-- R303: the length of an instruction, from its first byte alone. -/
def opcodeLength (b : Byte) : Nat :=
  if b ∈ threeByteOpcodes then 3 else if b ∈ twoByteOpcodes then 2 else 1

/-! ## Decoding a string of bytes -/

/-- Why a string of bytes is no instruction: there is none, or the string ends inside one. No byte value is
refused, since every opcode is defined (R314, R316). -/
inductive DecodeError where
  | noBytes
  | truncated (need : Nat)
  deriving DecidableEq, Repr

/-- The first instruction of a string of bytes and the rest of the string. -/
def decode : List Byte → Except DecodeError (Instr × List Byte)
  | [] => .error .noBytes
  | b0 :: rest =>
    let n := opcodeLength b0
    if rest.length + 1 < n then .error (.truncated n)
    else .ok (decode3 b0 (rest.getD 0 0) (rest.getD 1 0), rest.drop (n - 1))

/-! ## Encoding -/

/-- `nn`'s bytes in the instruction stream, low byte first (R302). -/
def immediateBytes (nn : Word) : List Byte := [nn.extractLsb' 0 8, nn.extractLsb' 8 8]

/-- The bytes of an instruction, in address order (R300, R302, R312, R313). -/
def encode : Instr → List Byte
  | .nop => [0x00]
  | .ld_bc_nn nn => 0x01 :: immediateBytes nn
  | .ld_mbc_a => [0x02]
  | .inc_bc => [0x03]
  | .inc_b => [0x04]
  | .dec_b => [0x05]
  | .ld_b_n n => [0x06, n]
  | .rlca => [0x07]
  | .ld_mnn_sp nn => 0x08 :: immediateBytes nn
  | .add_hl_bc => [0x09]
  | .ld_a_mbc => [0x0A]
  | .dec_bc => [0x0B]
  | .inc_c => [0x0C]
  | .dec_c => [0x0D]
  | .ld_c_n n => [0x0E, n]
  | .rrca => [0x0F]
  | .stop x => [0x10, x]
  | .ld_de_nn nn => 0x11 :: immediateBytes nn
  | .ld_mde_a => [0x12]
  | .inc_de => [0x13]
  | .inc_d => [0x14]
  | .dec_d => [0x15]
  | .ld_d_n n => [0x16, n]
  | .rla => [0x17]
  | .jr_e e => [0x18, e]
  | .add_hl_de => [0x19]
  | .ld_a_mde => [0x1A]
  | .dec_de => [0x1B]
  | .inc_e => [0x1C]
  | .dec_e => [0x1D]
  | .ld_e_n n => [0x1E, n]
  | .rra => [0x1F]
  | .jr_nz_e e => [0x20, e]
  | .ld_hl_nn nn => 0x21 :: immediateBytes nn
  | .ld_mhli_a => [0x22]
  | .inc_hl => [0x23]
  | .inc_h => [0x24]
  | .dec_h => [0x25]
  | .ld_h_n n => [0x26, n]
  | .daa => [0x27]
  | .jr_z_e e => [0x28, e]
  | .add_hl_hl => [0x29]
  | .ld_a_mhli => [0x2A]
  | .dec_hl => [0x2B]
  | .inc_l => [0x2C]
  | .dec_l => [0x2D]
  | .ld_l_n n => [0x2E, n]
  | .cpl => [0x2F]
  | .jr_nc_e e => [0x30, e]
  | .ld_sp_nn nn => 0x31 :: immediateBytes nn
  | .ld_mhld_a => [0x32]
  | .inc_sp => [0x33]
  | .inc_mhl => [0x34]
  | .dec_mhl => [0x35]
  | .ld_mhl_n n => [0x36, n]
  | .scf => [0x37]
  | .jr_c_e e => [0x38, e]
  | .add_hl_sp => [0x39]
  | .ld_a_mhld => [0x3A]
  | .dec_sp => [0x3B]
  | .inc_a => [0x3C]
  | .dec_a => [0x3D]
  | .ld_a_n n => [0x3E, n]
  | .ccf => [0x3F]
  | .ld_b_b => [0x40]
  | .ld_b_c => [0x41]
  | .ld_b_d => [0x42]
  | .ld_b_e => [0x43]
  | .ld_b_h => [0x44]
  | .ld_b_l => [0x45]
  | .ld_b_mhl => [0x46]
  | .ld_b_a => [0x47]
  | .ld_c_b => [0x48]
  | .ld_c_c => [0x49]
  | .ld_c_d => [0x4A]
  | .ld_c_e => [0x4B]
  | .ld_c_h => [0x4C]
  | .ld_c_l => [0x4D]
  | .ld_c_mhl => [0x4E]
  | .ld_c_a => [0x4F]
  | .ld_d_b => [0x50]
  | .ld_d_c => [0x51]
  | .ld_d_d => [0x52]
  | .ld_d_e => [0x53]
  | .ld_d_h => [0x54]
  | .ld_d_l => [0x55]
  | .ld_d_mhl => [0x56]
  | .ld_d_a => [0x57]
  | .ld_e_b => [0x58]
  | .ld_e_c => [0x59]
  | .ld_e_d => [0x5A]
  | .ld_e_e => [0x5B]
  | .ld_e_h => [0x5C]
  | .ld_e_l => [0x5D]
  | .ld_e_mhl => [0x5E]
  | .ld_e_a => [0x5F]
  | .ld_h_b => [0x60]
  | .ld_h_c => [0x61]
  | .ld_h_d => [0x62]
  | .ld_h_e => [0x63]
  | .ld_h_h => [0x64]
  | .ld_h_l => [0x65]
  | .ld_h_mhl => [0x66]
  | .ld_h_a => [0x67]
  | .ld_l_b => [0x68]
  | .ld_l_c => [0x69]
  | .ld_l_d => [0x6A]
  | .ld_l_e => [0x6B]
  | .ld_l_h => [0x6C]
  | .ld_l_l => [0x6D]
  | .ld_l_mhl => [0x6E]
  | .ld_l_a => [0x6F]
  | .ld_mhl_b => [0x70]
  | .ld_mhl_c => [0x71]
  | .ld_mhl_d => [0x72]
  | .ld_mhl_e => [0x73]
  | .ld_mhl_h => [0x74]
  | .ld_mhl_l => [0x75]
  | .halt => [0x76]
  | .ld_mhl_a => [0x77]
  | .ld_a_b => [0x78]
  | .ld_a_c => [0x79]
  | .ld_a_d => [0x7A]
  | .ld_a_e => [0x7B]
  | .ld_a_h => [0x7C]
  | .ld_a_l => [0x7D]
  | .ld_a_mhl => [0x7E]
  | .ld_a_a => [0x7F]
  | .add_a_b => [0x80]
  | .add_a_c => [0x81]
  | .add_a_d => [0x82]
  | .add_a_e => [0x83]
  | .add_a_h => [0x84]
  | .add_a_l => [0x85]
  | .add_a_mhl => [0x86]
  | .add_a_a => [0x87]
  | .adc_a_b => [0x88]
  | .adc_a_c => [0x89]
  | .adc_a_d => [0x8A]
  | .adc_a_e => [0x8B]
  | .adc_a_h => [0x8C]
  | .adc_a_l => [0x8D]
  | .adc_a_mhl => [0x8E]
  | .adc_a_a => [0x8F]
  | .sub_b => [0x90]
  | .sub_c => [0x91]
  | .sub_d => [0x92]
  | .sub_e => [0x93]
  | .sub_h => [0x94]
  | .sub_l => [0x95]
  | .sub_mhl => [0x96]
  | .sub_a => [0x97]
  | .sbc_a_b => [0x98]
  | .sbc_a_c => [0x99]
  | .sbc_a_d => [0x9A]
  | .sbc_a_e => [0x9B]
  | .sbc_a_h => [0x9C]
  | .sbc_a_l => [0x9D]
  | .sbc_a_mhl => [0x9E]
  | .sbc_a_a => [0x9F]
  | .and_b => [0xA0]
  | .and_c => [0xA1]
  | .and_d => [0xA2]
  | .and_e => [0xA3]
  | .and_h => [0xA4]
  | .and_l => [0xA5]
  | .and_mhl => [0xA6]
  | .and_a => [0xA7]
  | .xor_b => [0xA8]
  | .xor_c => [0xA9]
  | .xor_d => [0xAA]
  | .xor_e => [0xAB]
  | .xor_h => [0xAC]
  | .xor_l => [0xAD]
  | .xor_mhl => [0xAE]
  | .xor_a => [0xAF]
  | .or_b => [0xB0]
  | .or_c => [0xB1]
  | .or_d => [0xB2]
  | .or_e => [0xB3]
  | .or_h => [0xB4]
  | .or_l => [0xB5]
  | .or_mhl => [0xB6]
  | .or_a => [0xB7]
  | .cp_b => [0xB8]
  | .cp_c => [0xB9]
  | .cp_d => [0xBA]
  | .cp_e => [0xBB]
  | .cp_h => [0xBC]
  | .cp_l => [0xBD]
  | .cp_mhl => [0xBE]
  | .cp_a => [0xBF]
  | .ret_nz => [0xC0]
  | .pop_bc => [0xC1]
  | .jp_nz_nn nn => 0xC2 :: immediateBytes nn
  | .jp_nn nn => 0xC3 :: immediateBytes nn
  | .call_nz_nn nn => 0xC4 :: immediateBytes nn
  | .push_bc => [0xC5]
  | .add_a_n n => [0xC6, n]
  | .rst_00 => [0xC7]
  | .ret_z => [0xC8]
  | .ret => [0xC9]
  | .jp_z_nn nn => 0xCA :: immediateBytes nn
  | .call_z_nn nn => 0xCC :: immediateBytes nn
  | .call_nn nn => 0xCD :: immediateBytes nn
  | .adc_a_n n => [0xCE, n]
  | .rst_08 => [0xCF]
  | .ret_nc => [0xD0]
  | .pop_de => [0xD1]
  | .jp_nc_nn nn => 0xD2 :: immediateBytes nn
  | .undefined_d3 => [0xD3]
  | .call_nc_nn nn => 0xD4 :: immediateBytes nn
  | .push_de => [0xD5]
  | .sub_n n => [0xD6, n]
  | .rst_10 => [0xD7]
  | .ret_c => [0xD8]
  | .reti => [0xD9]
  | .jp_c_nn nn => 0xDA :: immediateBytes nn
  | .undefined_db => [0xDB]
  | .call_c_nn nn => 0xDC :: immediateBytes nn
  | .undefined_dd => [0xDD]
  | .sbc_a_n n => [0xDE, n]
  | .rst_18 => [0xDF]
  | .ldh_mn_a n => [0xE0, n]
  | .pop_hl => [0xE1]
  | .ld_mc_a => [0xE2]
  | .undefined_e3 => [0xE3]
  | .undefined_e4 => [0xE4]
  | .push_hl => [0xE5]
  | .and_n n => [0xE6, n]
  | .rst_20 => [0xE7]
  | .add_sp_e e => [0xE8, e]
  | .jp_hl => [0xE9]
  | .ld_mnn_a nn => 0xEA :: immediateBytes nn
  | .undefined_eb => [0xEB]
  | .undefined_ec => [0xEC]
  | .undefined_ed => [0xED]
  | .xor_n n => [0xEE, n]
  | .rst_28 => [0xEF]
  | .ldh_a_mn n => [0xF0, n]
  | .pop_af => [0xF1]
  | .ld_a_mc => [0xF2]
  | .di => [0xF3]
  | .undefined_f4 => [0xF4]
  | .push_af => [0xF5]
  | .or_n n => [0xF6, n]
  | .rst_30 => [0xF7]
  | .ld_hl_sp_e e => [0xF8, e]
  | .ld_sp_hl => [0xF9]
  | .ld_a_mnn nn => 0xFA :: immediateBytes nn
  | .ei => [0xFB]
  | .undefined_fc => [0xFC]
  | .undefined_fd => [0xFD]
  | .cp_n n => [0xFE, n]
  | .rst_38 => [0xFF]
  | .rlc_b => [0xCB, 0x00]
  | .rlc_c => [0xCB, 0x01]
  | .rlc_d => [0xCB, 0x02]
  | .rlc_e => [0xCB, 0x03]
  | .rlc_h => [0xCB, 0x04]
  | .rlc_l => [0xCB, 0x05]
  | .rlc_mhl => [0xCB, 0x06]
  | .rlc_a => [0xCB, 0x07]
  | .rrc_b => [0xCB, 0x08]
  | .rrc_c => [0xCB, 0x09]
  | .rrc_d => [0xCB, 0x0A]
  | .rrc_e => [0xCB, 0x0B]
  | .rrc_h => [0xCB, 0x0C]
  | .rrc_l => [0xCB, 0x0D]
  | .rrc_mhl => [0xCB, 0x0E]
  | .rrc_a => [0xCB, 0x0F]
  | .rl_b => [0xCB, 0x10]
  | .rl_c => [0xCB, 0x11]
  | .rl_d => [0xCB, 0x12]
  | .rl_e => [0xCB, 0x13]
  | .rl_h => [0xCB, 0x14]
  | .rl_l => [0xCB, 0x15]
  | .rl_mhl => [0xCB, 0x16]
  | .rl_a => [0xCB, 0x17]
  | .rr_b => [0xCB, 0x18]
  | .rr_c => [0xCB, 0x19]
  | .rr_d => [0xCB, 0x1A]
  | .rr_e => [0xCB, 0x1B]
  | .rr_h => [0xCB, 0x1C]
  | .rr_l => [0xCB, 0x1D]
  | .rr_mhl => [0xCB, 0x1E]
  | .rr_a => [0xCB, 0x1F]
  | .sla_b => [0xCB, 0x20]
  | .sla_c => [0xCB, 0x21]
  | .sla_d => [0xCB, 0x22]
  | .sla_e => [0xCB, 0x23]
  | .sla_h => [0xCB, 0x24]
  | .sla_l => [0xCB, 0x25]
  | .sla_mhl => [0xCB, 0x26]
  | .sla_a => [0xCB, 0x27]
  | .sra_b => [0xCB, 0x28]
  | .sra_c => [0xCB, 0x29]
  | .sra_d => [0xCB, 0x2A]
  | .sra_e => [0xCB, 0x2B]
  | .sra_h => [0xCB, 0x2C]
  | .sra_l => [0xCB, 0x2D]
  | .sra_mhl => [0xCB, 0x2E]
  | .sra_a => [0xCB, 0x2F]
  | .swap_b => [0xCB, 0x30]
  | .swap_c => [0xCB, 0x31]
  | .swap_d => [0xCB, 0x32]
  | .swap_e => [0xCB, 0x33]
  | .swap_h => [0xCB, 0x34]
  | .swap_l => [0xCB, 0x35]
  | .swap_mhl => [0xCB, 0x36]
  | .swap_a => [0xCB, 0x37]
  | .srl_b => [0xCB, 0x38]
  | .srl_c => [0xCB, 0x39]
  | .srl_d => [0xCB, 0x3A]
  | .srl_e => [0xCB, 0x3B]
  | .srl_h => [0xCB, 0x3C]
  | .srl_l => [0xCB, 0x3D]
  | .srl_mhl => [0xCB, 0x3E]
  | .srl_a => [0xCB, 0x3F]
  | .bit_0_b => [0xCB, 0x40]
  | .bit_0_c => [0xCB, 0x41]
  | .bit_0_d => [0xCB, 0x42]
  | .bit_0_e => [0xCB, 0x43]
  | .bit_0_h => [0xCB, 0x44]
  | .bit_0_l => [0xCB, 0x45]
  | .bit_0_mhl => [0xCB, 0x46]
  | .bit_0_a => [0xCB, 0x47]
  | .bit_1_b => [0xCB, 0x48]
  | .bit_1_c => [0xCB, 0x49]
  | .bit_1_d => [0xCB, 0x4A]
  | .bit_1_e => [0xCB, 0x4B]
  | .bit_1_h => [0xCB, 0x4C]
  | .bit_1_l => [0xCB, 0x4D]
  | .bit_1_mhl => [0xCB, 0x4E]
  | .bit_1_a => [0xCB, 0x4F]
  | .bit_2_b => [0xCB, 0x50]
  | .bit_2_c => [0xCB, 0x51]
  | .bit_2_d => [0xCB, 0x52]
  | .bit_2_e => [0xCB, 0x53]
  | .bit_2_h => [0xCB, 0x54]
  | .bit_2_l => [0xCB, 0x55]
  | .bit_2_mhl => [0xCB, 0x56]
  | .bit_2_a => [0xCB, 0x57]
  | .bit_3_b => [0xCB, 0x58]
  | .bit_3_c => [0xCB, 0x59]
  | .bit_3_d => [0xCB, 0x5A]
  | .bit_3_e => [0xCB, 0x5B]
  | .bit_3_h => [0xCB, 0x5C]
  | .bit_3_l => [0xCB, 0x5D]
  | .bit_3_mhl => [0xCB, 0x5E]
  | .bit_3_a => [0xCB, 0x5F]
  | .bit_4_b => [0xCB, 0x60]
  | .bit_4_c => [0xCB, 0x61]
  | .bit_4_d => [0xCB, 0x62]
  | .bit_4_e => [0xCB, 0x63]
  | .bit_4_h => [0xCB, 0x64]
  | .bit_4_l => [0xCB, 0x65]
  | .bit_4_mhl => [0xCB, 0x66]
  | .bit_4_a => [0xCB, 0x67]
  | .bit_5_b => [0xCB, 0x68]
  | .bit_5_c => [0xCB, 0x69]
  | .bit_5_d => [0xCB, 0x6A]
  | .bit_5_e => [0xCB, 0x6B]
  | .bit_5_h => [0xCB, 0x6C]
  | .bit_5_l => [0xCB, 0x6D]
  | .bit_5_mhl => [0xCB, 0x6E]
  | .bit_5_a => [0xCB, 0x6F]
  | .bit_6_b => [0xCB, 0x70]
  | .bit_6_c => [0xCB, 0x71]
  | .bit_6_d => [0xCB, 0x72]
  | .bit_6_e => [0xCB, 0x73]
  | .bit_6_h => [0xCB, 0x74]
  | .bit_6_l => [0xCB, 0x75]
  | .bit_6_mhl => [0xCB, 0x76]
  | .bit_6_a => [0xCB, 0x77]
  | .bit_7_b => [0xCB, 0x78]
  | .bit_7_c => [0xCB, 0x79]
  | .bit_7_d => [0xCB, 0x7A]
  | .bit_7_e => [0xCB, 0x7B]
  | .bit_7_h => [0xCB, 0x7C]
  | .bit_7_l => [0xCB, 0x7D]
  | .bit_7_mhl => [0xCB, 0x7E]
  | .bit_7_a => [0xCB, 0x7F]
  | .res_0_b => [0xCB, 0x80]
  | .res_0_c => [0xCB, 0x81]
  | .res_0_d => [0xCB, 0x82]
  | .res_0_e => [0xCB, 0x83]
  | .res_0_h => [0xCB, 0x84]
  | .res_0_l => [0xCB, 0x85]
  | .res_0_mhl => [0xCB, 0x86]
  | .res_0_a => [0xCB, 0x87]
  | .res_1_b => [0xCB, 0x88]
  | .res_1_c => [0xCB, 0x89]
  | .res_1_d => [0xCB, 0x8A]
  | .res_1_e => [0xCB, 0x8B]
  | .res_1_h => [0xCB, 0x8C]
  | .res_1_l => [0xCB, 0x8D]
  | .res_1_mhl => [0xCB, 0x8E]
  | .res_1_a => [0xCB, 0x8F]
  | .res_2_b => [0xCB, 0x90]
  | .res_2_c => [0xCB, 0x91]
  | .res_2_d => [0xCB, 0x92]
  | .res_2_e => [0xCB, 0x93]
  | .res_2_h => [0xCB, 0x94]
  | .res_2_l => [0xCB, 0x95]
  | .res_2_mhl => [0xCB, 0x96]
  | .res_2_a => [0xCB, 0x97]
  | .res_3_b => [0xCB, 0x98]
  | .res_3_c => [0xCB, 0x99]
  | .res_3_d => [0xCB, 0x9A]
  | .res_3_e => [0xCB, 0x9B]
  | .res_3_h => [0xCB, 0x9C]
  | .res_3_l => [0xCB, 0x9D]
  | .res_3_mhl => [0xCB, 0x9E]
  | .res_3_a => [0xCB, 0x9F]
  | .res_4_b => [0xCB, 0xA0]
  | .res_4_c => [0xCB, 0xA1]
  | .res_4_d => [0xCB, 0xA2]
  | .res_4_e => [0xCB, 0xA3]
  | .res_4_h => [0xCB, 0xA4]
  | .res_4_l => [0xCB, 0xA5]
  | .res_4_mhl => [0xCB, 0xA6]
  | .res_4_a => [0xCB, 0xA7]
  | .res_5_b => [0xCB, 0xA8]
  | .res_5_c => [0xCB, 0xA9]
  | .res_5_d => [0xCB, 0xAA]
  | .res_5_e => [0xCB, 0xAB]
  | .res_5_h => [0xCB, 0xAC]
  | .res_5_l => [0xCB, 0xAD]
  | .res_5_mhl => [0xCB, 0xAE]
  | .res_5_a => [0xCB, 0xAF]
  | .res_6_b => [0xCB, 0xB0]
  | .res_6_c => [0xCB, 0xB1]
  | .res_6_d => [0xCB, 0xB2]
  | .res_6_e => [0xCB, 0xB3]
  | .res_6_h => [0xCB, 0xB4]
  | .res_6_l => [0xCB, 0xB5]
  | .res_6_mhl => [0xCB, 0xB6]
  | .res_6_a => [0xCB, 0xB7]
  | .res_7_b => [0xCB, 0xB8]
  | .res_7_c => [0xCB, 0xB9]
  | .res_7_d => [0xCB, 0xBA]
  | .res_7_e => [0xCB, 0xBB]
  | .res_7_h => [0xCB, 0xBC]
  | .res_7_l => [0xCB, 0xBD]
  | .res_7_mhl => [0xCB, 0xBE]
  | .res_7_a => [0xCB, 0xBF]
  | .set_0_b => [0xCB, 0xC0]
  | .set_0_c => [0xCB, 0xC1]
  | .set_0_d => [0xCB, 0xC2]
  | .set_0_e => [0xCB, 0xC3]
  | .set_0_h => [0xCB, 0xC4]
  | .set_0_l => [0xCB, 0xC5]
  | .set_0_mhl => [0xCB, 0xC6]
  | .set_0_a => [0xCB, 0xC7]
  | .set_1_b => [0xCB, 0xC8]
  | .set_1_c => [0xCB, 0xC9]
  | .set_1_d => [0xCB, 0xCA]
  | .set_1_e => [0xCB, 0xCB]
  | .set_1_h => [0xCB, 0xCC]
  | .set_1_l => [0xCB, 0xCD]
  | .set_1_mhl => [0xCB, 0xCE]
  | .set_1_a => [0xCB, 0xCF]
  | .set_2_b => [0xCB, 0xD0]
  | .set_2_c => [0xCB, 0xD1]
  | .set_2_d => [0xCB, 0xD2]
  | .set_2_e => [0xCB, 0xD3]
  | .set_2_h => [0xCB, 0xD4]
  | .set_2_l => [0xCB, 0xD5]
  | .set_2_mhl => [0xCB, 0xD6]
  | .set_2_a => [0xCB, 0xD7]
  | .set_3_b => [0xCB, 0xD8]
  | .set_3_c => [0xCB, 0xD9]
  | .set_3_d => [0xCB, 0xDA]
  | .set_3_e => [0xCB, 0xDB]
  | .set_3_h => [0xCB, 0xDC]
  | .set_3_l => [0xCB, 0xDD]
  | .set_3_mhl => [0xCB, 0xDE]
  | .set_3_a => [0xCB, 0xDF]
  | .set_4_b => [0xCB, 0xE0]
  | .set_4_c => [0xCB, 0xE1]
  | .set_4_d => [0xCB, 0xE2]
  | .set_4_e => [0xCB, 0xE3]
  | .set_4_h => [0xCB, 0xE4]
  | .set_4_l => [0xCB, 0xE5]
  | .set_4_mhl => [0xCB, 0xE6]
  | .set_4_a => [0xCB, 0xE7]
  | .set_5_b => [0xCB, 0xE8]
  | .set_5_c => [0xCB, 0xE9]
  | .set_5_d => [0xCB, 0xEA]
  | .set_5_e => [0xCB, 0xEB]
  | .set_5_h => [0xCB, 0xEC]
  | .set_5_l => [0xCB, 0xED]
  | .set_5_mhl => [0xCB, 0xEE]
  | .set_5_a => [0xCB, 0xEF]
  | .set_6_b => [0xCB, 0xF0]
  | .set_6_c => [0xCB, 0xF1]
  | .set_6_d => [0xCB, 0xF2]
  | .set_6_e => [0xCB, 0xF3]
  | .set_6_h => [0xCB, 0xF4]
  | .set_6_l => [0xCB, 0xF5]
  | .set_6_mhl => [0xCB, 0xF6]
  | .set_6_a => [0xCB, 0xF7]
  | .set_7_b => [0xCB, 0xF8]
  | .set_7_c => [0xCB, 0xF9]
  | .set_7_d => [0xCB, 0xFA]
  | .set_7_e => [0xCB, 0xFB]
  | .set_7_h => [0xCB, 0xFC]
  | .set_7_l => [0xCB, 0xFD]
  | .set_7_mhl => [0xCB, 0xFE]
  | .set_7_a => [0xCB, 0xFF]

/-! ## The table's own numbering of an instruction's bits -/

/-- The bytes, first byte first, of the instruction spec/opcode_table.json numbers as the `nbits`-bit number
`w`, zero bytes following. A row of one byte is that byte. A row behind the prefix is 16 bits with the prefix
0xCB in bits 15..8 (its `match` is 0xCB00 + s); any other number has its first byte lowest (log entry 1). -/
def tableBytes (nbits w : Nat) : List Byte :=
  let w := w % 2 ^ nbits
  if nbits = 16 ∧ w / 256 = 0xCB then [0xCB#8, BitVec.ofNat 8 w, 0#8]
  else [BitVec.ofNat 8 w, BitVec.ofNat 8 (w / 256), BitVec.ofNat 8 (w / 65536)]

/-- The instruction the decoder reads from those bytes. -/
def decodeTableWord (nbits w : Nat) : Option Instr :=
  match decode (tableBytes nbits w) with
  | .ok (i, _) => some i
  | .error _ => none

end Sys2Proof
end

