-- ==== Sys2Proof/Config.lean ====
section
/-! DEFINITION. What is fixed for one machine, and the values the spec leaves open (00_scope R8). A constant
without a body is a value no proof can see: a statement that holds, holds whatever it is. -/

namespace Sys2Proof

/-- `HALT_BUG` (R8, R704, decision D14): an OPEN Boolean parameter, log entry 5. -/
opaque Config.haltBug : Bool

/-- `SHADE_RGB` (R8, R878, decision D27): the OPEN red, green and blue byte of each of the four shades,
log entry 6. The spec's premise on it is `Config.GreyDecreasing`; nothing here assumes it. -/
opaque Config.shadeRgb : BitVec 2 → Byte × Byte × Byte

/-- `RTC_READ` (R8, R285, decision D23): the byte a read of an MBC3 clock register draws, log entry 4. It is
applied to the machine's draw counter and to the address read, so that two reads are related by nothing. -/
opaque Config.rtcRead : Nat → Word → Byte

/-- `EI_DELAY` (R8, R707, decision D13): the spec fixes 1, log entry 7. -/
def Config.eiDelay : Nat := 1

/-- R860, R901: the cycles of one frame, `144 * 456 + 10 * 456`. -/
def Config.cyclesPerFrame : Nat := 70224

/-- R878's premise on `SHADE_RGB`: the four triples are grey levels, strictly darker from shade 0 to shade 3. -/
def Config.GreyDecreasing : Prop :=
  (∀ s, (Config.shadeRgb s).1 = (Config.shadeRgb s).2.1 ∧ (Config.shadeRgb s).1 = (Config.shadeRgb s).2.2) ∧
  (Config.shadeRgb 3).1 < (Config.shadeRgb 2).1 ∧ (Config.shadeRgb 2).1 < (Config.shadeRgb 1).1 ∧
  (Config.shadeRgb 1).1 < (Config.shadeRgb 0).1

end Sys2Proof
end

