-- ==== Sys2Proof/Machine/State.lean ====
section
/-! DEFINITION. The state of the machine (10_state), the reasons a step can stop, and the state after reset
(R150, column `construct`; R951). -/

namespace Sys2Proof.Machine

/-- Bytes by address: addresses strictly rising, no entry equal to what an unlisted address reads as
(Machine/Memory.lean, log entry 13). -/
abbrev Memory := List Host.Cell

/-- The PPU modes (R140). -/
inductive PpuMode where
  | oamSearch
  | drawing
  | hblank
  | vblank
  deriving DecidableEq, Repr

/-- MBC1 registers (R276): `ramg` 1 bit, `bank1` 5 bits, `bank2` 2 bits, `mode` 1 bit. -/
structure Mbc1 where
  ramg  : Bool
  bank1 : BitVec 5
  bank2 : BitVec 2
  mode  : Bool
  deriving DecidableEq, Repr

/-- MBC2 registers (R280): `ramg` 1 bit, `romb` 4 bits. -/
structure Mbc2 where
  ramg : Bool
  romb : BitVec 4
  deriving DecidableEq, Repr

/-- MBC3 registers (R284): `ramg` 1 bit, `romb` 7 bits, `rsel` 8 bits. -/
structure Mbc3 where
  ramg : Bool
  romb : BitVec 7
  rsel : Byte
  deriving DecidableEq, Repr

/-- MBC5 registers (R288): `ramg` 1 bit, `romb` 9 bits, `ramb` 4 bits. -/
structure Mbc5 where
  ramg : Bool
  romb : BitVec 9
  ramb : BitVec 4
  deriving DecidableEq, Repr

/-- The bank-select controller of a cartridge with its registers (R142, R255). -/
inductive Controller where
  | romOnly
  | mbc1 (r : Mbc1)
  | mbc2 (r : Mbc2)
  | mbc3 (r : Mbc3)
  | mbc5 (r : Mbc5)
  deriving DecidableEq, Repr

/-- A loaded cartridge (R142, R250): the immutable header fields and image, the RAM, the controller.
`img` lists the image's bytes by offset (an unlisted offset below `len` is 0x00); `ram` the RAM's. -/
structure Cart where
  title     : List Byte
  typeCode  : Byte
  romCode   : Byte
  ramCode   : Byte
  cgb       : Bool
  romBanks  : Nat
  ramSize   : Nat
  supported : Bool
  len       : Nat
  img       : Memory
  ram       : Memory
  ctrl      : Controller
  deriving DecidableEq, Repr

/-- The frame buffer (R143): the rendered lines by line number, strictly rising, each with its 160 shades.
A line not listed has never been rendered and its bytes are 0x00; a listed pixel's bytes are those of its
shade with alpha 0xFF (R877; Machine/HostOps.lean, log entry 6). -/
abbrev Frame := List (Nat × List (BitVec 2))

/-- The whole state of the block (R100 to R143), and two fields of the model's own: `cycles` and `draws`. -/
@[ext]
structure State where
  a          : Byte
  f          : Byte
  b          : Byte
  c          : Byte
  d          : Byte
  e          : Byte
  h          : Byte
  l          : Byte
  sp         : Word
  pc         : Word
  ime        : Bool
  eiPending  : Bool
  halted     : Bool
  haltBug    : Bool
  stopped    : Bool
  mem        : Memory
  buttons    : Byte
  mode       : PpuMode
  dot        : Nat
  line       : Nat
  winLine    : Nat
  cart       : Option Cart
  frame      : Frame
  frameAcc   : Nat
  cycleCount : Nat
  cycles     : Nat
  draws      : Nat
  deriving DecidableEq, Repr

/-- The reasons a step stops with a fault: none. The hardware raises no synchronous exception, fault or trap
(R830), so nothing raises a fault here, which is exact. -/
inductive Fault where
  deriving DecidableEq, Repr

/-- The reasons a step is refused. -/
inductive Refusal where
  /-- An instruction of the opcode table whose meaning is not written yet; raised by exec's arm for it alone,
  and safe (the model stops where the hardware goes on). No arm raises it. -/
  | notModelled (mnemonic : String)
  deriving DecidableEq, Repr

/-- What running an instruction answers. -/
abbrev Result := Host.Outcome State Fault Refusal

/-- The machine right after reset with no cartridge: R150's column `construct`, R951. `cycles` and `draws` are
the model's own (log entries 3 and 4). -/
def State.reset : State where
  a := 0x01#8
  f := 0xB0#8
  b := 0x00#8
  c := 0x13#8
  d := 0x00#8
  e := 0xD8#8
  h := 0x01#8
  l := 0x4D#8
  sp := 0xFFFE#16
  pc := 0x0100#16
  ime := false
  eiPending := false
  halted := false
  haltBug := false
  stopped := false
  mem := []
  buttons := 0xFF#8
  mode := .oamSearch
  dot := 0
  line := 0
  winLine := 0
  cart := none
  frame := []
  frameAcc := 0
  cycleCount := 0
  cycles := 0
  draws := 0

end Sys2Proof.Machine
end

