-- ==== Sys2Proof/Machine/Memory.lean ====
section
/-! DEFINITION. The one sparse memory all byte arrays of the machine are held in: reading, writing, the
canonical form, and building one from a list of bytes. -/

namespace Sys2Proof.Machine

/-- What an unlisted address reads as: 0x00, since the regions are "zero-filled on reset" (R120, R150) and a
new cartridge's RAM is all 0x00 (R260). -/
def Memory.unlisted : Byte := 0x00#8

/-- The byte at an address. -/
def Memory.read : Memory → Nat → Byte
  | [], _ => Memory.unlisted
  | (k, v) :: m, a => if a = k then v else Memory.read m a

/-- Storing a byte: the entry is replaced, inserted in order, or removed when the byte is the unlisted one. -/
def Memory.write : Memory → Nat → Byte → Memory
  | [], a, v => if v = Memory.unlisted then [] else [(a, v)]
  | (k, w) :: m, a, v =>
    if a < k then
      if v = Memory.unlisted then (k, w) :: m else (a, v) :: (k, w) :: m
    else if a = k then
      if v = Memory.unlisted then m else (k, v) :: m
    else (k, w) :: Memory.write m a v

/-- The first listed address, if there is one, is above `k`. -/
def Memory.above (k : Nat) : Memory → Bool
  | [] => true
  | (j, _) :: _ => k < j

/-- The canonical form: addresses strictly rising, no entry equal to what an unlisted address reads as. -/
def Memory.wf : Memory → Bool
  | [] => true
  | (k, v) :: m => v != Memory.unlisted && Memory.above k m && Memory.wf m

/-- Every listed address satisfies `p`. -/
def Memory.keysIn (p : Nat → Bool) (m : Memory) : Bool :=
  m.all fun cell => p cell.1

/-- The memory that holds `bytes` from address `k` on. -/
def Memory.ofBytes (k : Nat) : List Byte → Memory
  | [] => []
  | v :: rest =>
    if v = Memory.unlisted then Memory.ofBytes (k + 1) rest else (k, v) :: Memory.ofBytes (k + 1) rest

end Sys2Proof.Machine
end

