-- ==== Sys2Proof/Machine/Cartridge.lean ====
section
/-! DEFINITION. The cartridge (21_cartridge): parsing the header of an image, and the bank-select controllers'
reads and writes. Addresses are bus addresses as natural numbers. -/

namespace Sys2Proof.Machine

/-! ## Bank resolution -/

/-- R263: the image byte at bank `b` and offset `o`, 0xFF past the image. -/
def Cart.romByte (c : Cart) (b o : Nat) : Byte :=
  if b * 0x4000 + o < c.len then c.img.read (b * 0x4000 + o) else 0xFF#8

/-- The ROM bank a bus address 0x0000-0x7FFF shows, before the reduction of R265 (R275, R277, R282, R286,
R290). -/
def Cart.romBank (c : Cart) (a : Nat) : Nat :=
  match c.ctrl with
  | .romOnly => a / 0x4000
  | .mbc1 r =>
    if a < 0x4000 then (if r.mode then r.bank2.toNat * 32 else 0)
    else r.bank2.toNat * 32 + r.bank1.toNat
  | .mbc2 r => if a < 0x4000 then 0 else r.romb.toNat
  | .mbc3 r => if a < 0x4000 then 0 else r.romb.toNat
  | .mbc5 r => if a < 0x4000 then 0 else r.romb.toNat

/-- `cart_read_rom` (R270), the bank reduced modulo the bank count (R265). -/
def Cart.readRom (c : Cart) (a : Nat) : Byte :=
  c.romByte (c.romBank a % c.romBanks) (a % 0x4000)

/-! ## Register writes -/

/-- R266: the documented write pattern of the RAM gate, a low nibble of 0xA. -/
def opensRamGate (v : Byte) : Bool := v.extractLsb' 0 4 = 0xA#4

/-- "an index of zero resolves to bank one" (R276, R280, R284). -/
def zeroToOne {w : Nat} (b : BitVec w) : BitVec w := if b = 0 then 1 else b

/-- R276. -/
def Mbc1.write (r : Mbc1) (a : Nat) (v : Byte) : Mbc1 :=
  if a < 0x2000 then { r with ramg := opensRamGate v }
  else if a < 0x4000 then { r with bank1 := zeroToOne (v.extractLsb' 0 5) }
  else if a < 0x6000 then { r with bank2 := v.extractLsb' 0 2 }
  else { r with mode := v.getLsbD 0 }

/-- R280: the register is selected by address bit 8. -/
def Mbc2.write (r : Mbc2) (a : Nat) (v : Byte) : Mbc2 :=
  if a < 0x4000 then
    if a.testBit 8 then { r with romb := zeroToOne (v.extractLsb' 0 4) }
    else { r with ramg := opensRamGate v }
  else r

/-- R284. -/
def Mbc3.write (r : Mbc3) (a : Nat) (v : Byte) : Mbc3 :=
  if a < 0x2000 then { r with ramg := opensRamGate v }
  else if a < 0x4000 then { r with romb := zeroToOne (v.extractLsb' 0 7) }
  else if a < 0x6000 then { r with rsel := v }
  else r

/-- The rumble boards of MBC5 (R288): type codes 0x1C to 0x1E, whose bank register has three bits. -/
def isRumble (typeCode : Byte) : Bool := typeCode = 0x1C#8 || typeCode = 0x1D#8 || typeCode = 0x1E#8

/-- R288. -/
def Mbc5.write (rumble : Bool) (r : Mbc5) (a : Nat) (v : Byte) : Mbc5 :=
  if a < 0x2000 then { r with ramg := opensRamGate v }
  else if a < 0x3000 then { r with romb := (r.romb &&& 0x100#9) ||| v.setWidth 9 }
  else if a < 0x4000 then { r with romb := (r.romb &&& 0x0FF#9) ||| ((v &&& 0x01#8).setWidth 9 <<< 8) }
  else if a < 0x6000 then
    { r with ramb := if rumble then (v &&& 0x07#8).setWidth 4 else (v &&& 0x0F#8).setWidth 4 }
  else r

/-- `cart_write_rom` (R271): a write into 0x0000-0x7FFF is a command to the controller; the image never
changes. -/
def Cart.writeRom (c : Cart) (a : Nat) (v : Byte) : Cart :=
  match c.ctrl with
  | .romOnly => c
  | .mbc1 r => { c with ctrl := .mbc1 (r.write a v) }
  | .mbc2 r => { c with ctrl := .mbc2 (r.write a v) }
  | .mbc3 r => { c with ctrl := .mbc3 (r.write a v) }
  | .mbc5 r => { c with ctrl := .mbc5 (r.write (isRumble c.typeCode) a v) }

/-! ## The external RAM window -/

/-- What an address of 0xA000-0xBFFF leads to. -/
inductive RamTarget where
  /-- Closed gate, no RAM or nothing selected: reads 0xFF, writes dropped (R266). -/
  | nothing
  /-- A byte of cartridge RAM. -/
  | cell (off : Nat)
  /-- A four-bit cell of MBC2 (R281). -/
  | nibble (off : Nat)
  /-- A clock register of MBC3 (R285). -/
  | rtc
  deriving DecidableEq, Repr

/-- The RAM cell at bank `rb`, its offset reduced modulo the RAM size (R265); nothing without RAM (R266). -/
def Cart.ramCell (c : Cart) (rb a : Nat) : RamTarget :=
  if c.ramSize = 0 then .nothing else .cell ((rb * 0x2000 + (a - 0xA000)) % c.ramSize)

/-- The controllers' RAM rules: R275, R278, R281, R285, R289. -/
def Cart.ramTarget (c : Cart) (a : Nat) : RamTarget :=
  match c.ctrl with
  | .romOnly => c.ramCell 0 a
  | .mbc1 r => if r.ramg then c.ramCell (if r.mode then r.bank2.toNat else 0) a else .nothing
  | .mbc2 r => if r.ramg then .nibble ((a - 0xA000) % 0x200) else .nothing
  | .mbc3 r =>
    if r.ramg then
      if r.rsel ≤ 0x03#8 then c.ramCell r.rsel.toNat a
      else if 0x08#8 ≤ r.rsel ∧ r.rsel ≤ 0x0C#8 then .rtc
      else .nothing
    else .nothing
  | .mbc5 r => if r.ramg then c.ramCell r.ramb.toNat a else .nothing

/-- `cart_read_ram` (R272). `rtc` is the byte a clock register would read as (R285). -/
def Cart.readRam (c : Cart) (rtc : Byte) (a : Nat) : Byte :=
  match c.ramTarget a with
  | .nothing => 0xFF#8
  | .cell off => c.ram.read off
  | .nibble off => 0xF0#8 ||| (c.ram.read off &&& 0x0F#8)
  | .rtc => rtc

/-- `cart_write_ram` (R272). -/
def Cart.writeRam (c : Cart) (a : Nat) (v : Byte) : Cart :=
  match c.ramTarget a with
  | .nothing => c
  | .cell off => { c with ram := c.ram.write off v }
  | .nibble off => { c with ram := c.ram.write off (v &&& 0x0F#8) }
  | .rtc => c

/-! ## Loading an image -/

/-- R291: the controller of a type code with its registers at their power-on values (R255). -/
def controllerOf (typeCode : Byte) : Controller :=
  if typeCode = 0x01#8 ∨ typeCode = 0x02#8 ∨ typeCode = 0x03#8 then
    .mbc1 { ramg := false, bank1 := 1, bank2 := 0, mode := false }
  else if typeCode = 0x05#8 ∨ typeCode = 0x06#8 then .mbc2 { ramg := false, romb := 1 }
  else if 0x0F#8 ≤ typeCode ∧ typeCode ≤ 0x13#8 then .mbc3 { ramg := false, romb := 1, rsel := 0 }
  else if 0x19#8 ≤ typeCode ∧ typeCode ≤ 0x1E#8 then .mbc5 { ramg := false, romb := 1, ramb := 0 }
  else .romOnly

/-- R255's column "supported" (R261). -/
def supportedType (typeCode : Byte) : Bool :=
  typeCode = 0x00#8 || typeCode = 0x08#8 || typeCode = 0x09#8 ||
  typeCode = 0x01#8 || typeCode = 0x02#8 || typeCode = 0x03#8 || typeCode = 0x05#8 || typeCode = 0x06#8 ||
  (0x0F#8 ≤ typeCode && typeCode ≤ 0x13#8) || (0x19#8 ≤ typeCode && typeCode ≤ 0x1E#8)

/-- The smallest `n * 2 ^ k` that is at least `need`, found in at most `fuel` doublings. -/
def doubleUntil : Nat → Nat → Nat → Nat
  | 0, _, n => n
  | fuel + 1, need, n => if need ≤ n then n else doubleUntil fuel need (2 * n)

/-- R256: the bank count, from the size code or, for a code outside the table, from the image's length. -/
def romBanksOf (romCode : Byte) (len : Nat) : Nat :=
  if romCode ≤ 0x08#8 then 2 * 2 ^ romCode.toNat
  else doubleUntil ((len + 0x3FFF) / 0x4000) ((len + 0x3FFF) / 0x4000) 2

/-- R257: the RAM size of a code. -/
def ramSizeOf (ramCode : Byte) : Nat :=
  if ramCode = 0x01#8 then 0x800
  else if ramCode = 0x02#8 then 0x2000
  else if ramCode = 0x03#8 then 0x8000
  else if ramCode = 0x04#8 then 0x20000
  else if ramCode = 0x05#8 then 0x10000
  else 0

/-- The RAM a cartridge has: 512 cells for MBC2 whatever the code (R257, R281), none for an unsupported
controller (R262, R275), else that of the code. -/
def cartRamSize (typeCode ramCode : Byte) : Nat :=
  if typeCode = 0x05#8 ∨ typeCode = 0x06#8 then 512
  else if supportedType typeCode then ramSizeOf ramCode
  else 0

/-- R253: the title field, one byte shorter when bit 7 of 0x0143 is set, cut before the first 0x00. -/
def titleOf (bytes : List Byte) : List Byte :=
  let field := (bytes.drop 0x134).take (if (bytes.getD 0x143 0).getLsbD 7 then 15 else 16)
  field.takeWhile (· != 0x00#8)

/-- Why a load fails: the image is shorter than the header region (R252), the only reason there is. -/
inductive LoadError where
  | imageTooShort (len : Nat)
  deriving DecidableEq, Repr

/-- R250 to R257, R260: the cartridge an image makes, or the load error of R252. -/
def Cart.ofImage (bytes : List Byte) : Except LoadError Cart :=
  if bytes.length < 0x150 then .error (.imageTooShort bytes.length)
  else
    let typeCode := bytes.getD 0x147 0
    let romCode := bytes.getD 0x148 0
    let ramCode := bytes.getD 0x149 0
    .ok {
      title := titleOf bytes
      typeCode := typeCode
      romCode := romCode
      ramCode := ramCode
      cgb := (bytes.getD 0x143 0).getLsbD 7
      romBanks := romBanksOf romCode bytes.length
      ramSize := cartRamSize typeCode ramCode
      supported := supportedType typeCode
      len := bytes.length
      img := Memory.ofBytes 0 bytes
      ram := []
      ctrl := controllerOf typeCode }

/-- R291: what a reset does to a loaded cartridge: registers to their power-on values, RAM kept. -/
def Cart.powerOn (c : Cart) : Cart := { c with ctrl := controllerOf c.typeCode }

end Sys2Proof.Machine
end

