-- ==== Sys2Proof/Machine/Ops.lean ====
section
/-! DEFINITION. The named operations over the machine: byte and word helpers, the bus (20_memory), the register
pairs (10_state R101), the stack (41_loads16 R450, R451), taking an interrupt (60_exceptions R813) and the
return from one (45_control R667). -/

namespace Sys2Proof.Machine

/-! ## Bytes and words -/

/-- `v[15:8]`. -/
def hiByte (v : Word) : Byte := v.extractLsb' 8 8

/-- `v[7:0]`. -/
def loByte (v : Word) : Byte := v.extractLsb' 0 8

/-- `{hi, lo}`: bits 15:8 and 7:0 of a word (R220 lays the low byte at the lower address). -/
def wordOf (hi lo : Byte) : Word := hi ++ lo

/-- `sext_16`. -/
def sext16 (v : Byte) : Word := v.signExtend 16

/-- A Boolean as the byte 0 or 1. -/
def bit8 (b : Bool) : Byte := if b then 0x01#8 else 0x00#8

/-! ## The bus -/

/-- The rows of the address map R202. -/
inductive Region where
  | rom        -- 0x0000-0x7FFF, both windows
  | vram       -- 0x8000-0x9FFF
  | extRam     -- 0xA000-0xBFFF
  | wram       -- 0xC000-0xDFFF
  | echo       -- 0xE000-0xFDFF
  | oam        -- 0xFE00-0xFE9F
  | unusable   -- 0xFEA0-0xFEFF
  | joypad     -- 0xFF00
  | io         -- 0xFF01-0xFF7F
  | hram       -- 0xFF80-0xFFFE
  | ie         -- 0xFFFF
  deriving DecidableEq, Repr

/-- R202: the row of an address. -/
def regionOf (addr : Word) : Region :=
  if addr < 0x8000#16 then .rom
  else if addr < 0xA000#16 then .vram
  else if addr < 0xC000#16 then .extRam
  else if addr < 0xE000#16 then .wram
  else if addr < 0xFE00#16 then .echo
  else if addr < 0xFEA0#16 then .oam
  else if addr < 0xFF00#16 then .unusable
  else if addr = 0xFF00#16 then .joypad
  else if addr < 0xFF80#16 then .io
  else if addr < 0xFFFF#16 then .hram
  else .ie

/-- The address `mem` keeps an address's byte under: its own, but for the echo (R208: 0x2000 below) and IE
(R212: the cell `io[0x7F]`). -/
def cellOf (addr : Word) : Nat :=
  match regionOf addr with
  | .echo => addr.toNat - 0x2000
  | .ie => 0xFF7F
  | _ => addr.toNat

/-- `cart_read_rom`, 0xFF without a cartridge (R203, R216, R270). -/
def State.readCartRom (s : State) (a : Nat) : Byte :=
  match s.cart with
  | none => 0xFF#8
  | some c => c.readRom a

/-- `cart_read_ram`, 0xFF without a cartridge (R206, R216, R272); `n` is the draw a clock register gives. -/
def State.readCartRam (s : State) (n : Nat) (addr : Word) : Byte :=
  match s.cart with
  | none => 0xFF#8
  | some c => c.readRam (Config.rtcRead n addr) addr.toNat

/-- `read(addr)` (R200, R202), the `n`-th draw standing for a clock register's byte. -/
def State.readAt (s : State) (n : Nat) (addr : Word) : Byte :=
  match regionOf addr with
  | .rom => s.readCartRom addr.toNat
  | .extRam => s.readCartRam n addr
  | .unusable => 0xFF#8
  | .joypad => s.buttons
  | _ => s.mem.read (cellOf addr)

/-- `MemRead(addr, 1)`: the bus read of the current draw (R200, log entry 4). -/
def State.read (s : State) (addr : Word) : Byte := s.readAt s.draws addr

/-- `MemWrite(addr, 1, v)`: the bus write (R201, R202). -/
def State.write (s : State) (addr : Word) (v : Byte) : State :=
  match regionOf addr with
  | .rom => { s with cart := s.cart.map fun c => c.writeRom addr.toNat v }
  | .extRam => { s with cart := s.cart.map fun c => c.writeRam addr.toNat v }
  | .unusable => s
  | _ => { s with mem := s.mem.write (cellOf addr) v }

/-- `io[k]`, the cell itself and not the bus read (R141, R211). -/
def State.io (s : State) (k : Nat) : Byte := s.mem.read (0xFF00 + k)

/-- `io[k] <- v`. -/
def State.setIo (s : State) (k : Nat) (v : Byte) : State := { s with mem := s.mem.write (0xFF00 + k) v }

/-! ## Registers -/

/-- `x[r]` (R305). -/
def State.reg (s : State) : Reg8 → Byte
  | .b => s.b
  | .c => s.c
  | .d => s.d
  | .e => s.e
  | .h => s.h
  | .l => s.l
  | .a => s.a

/-- `x[r] <- v`. -/
def State.setReg (s : State) (r : Reg8) (v : Byte) : State :=
  match r with
  | .b => { s with b := v }
  | .c => { s with c := v }
  | .d => { s with d := v }
  | .e => { s with e := v }
  | .h => { s with h := v }
  | .l => { s with l := v }
  | .a => { s with a := v }

/-- Every write to F stores `v & 0xF0` (R103). -/
def State.setF (s : State) (v : Byte) : State := { s with f := v &&& 0xF0#8 }

/-- `xx[p]` (R101, R306, R307). -/
def State.reg16 (s : State) : Reg16 → Word
  | .af => wordOf s.a s.f
  | .bc => wordOf s.b s.c
  | .de => wordOf s.d s.e
  | .hl => wordOf s.h s.l
  | .sp => s.sp

/-- `xx[p] <- v` (R101; the low byte of AF goes through R103). -/
def State.setReg16 (s : State) (r : Reg16) (v : Word) : State :=
  match r with
  | .af => { s with a := hiByte v }.setF (loByte v)
  | .bc => { s with b := hiByte v, c := loByte v }
  | .de => { s with d := hiByte v, e := loByte v }
  | .hl => { s with h := hiByte v, l := loByte v }
  | .sp => { s with sp := v }

/-- HL. -/
def State.hl (s : State) : Word := s.reg16 .hl

/-! ## The stack -/

/-- `Push16(v)` (R450): high byte first, at the higher address. -/
def State.push16 (s : State) (v : Word) : State :=
  let s1 := { s with sp := s.sp - 1 }.write (s.sp - 1) (hiByte v)
  { s1 with sp := s.sp - 2 }.write (s.sp - 2) (loByte v)

/-- The word `Pop16()` returns (R451). -/
def State.top16 (s : State) : Word := wordOf (s.read (s.sp + 1)) (s.read s.sp)

/-- What `Pop16()` does to SP (R451). -/
def State.popped (s : State) : State := { s with sp := s.sp + 2 }

/-! ## Interrupts -/

/-- `p = IE & IF & 0x1F` (R810). -/
def State.pending (s : State) : Byte := s.io 0x7F &&& s.io 0x0F &&& 0x1F#8

/-- The lowest set bit among bits 0..4 (R815). -/
def lowestBit (p : Byte) : Option (Fin 5) :=
  if p.getLsbD 0 then some 0
  else if p.getLsbD 1 then some 1
  else if p.getLsbD 2 then some 2
  else if p.getLsbD 3 then some 3
  else if p.getLsbD 4 then some 4
  else none

/-- `0x0040 + 8 * i` (R815). -/
def vectorOf (i : Fin 5) : Word := 0x0040#16 + 8#16 * BitVec.ofNat 16 i.val

/-- Dispatch of interrupt `i`, the machine's one way into a trap (R813): acknowledge, clear IME, push the
return address (the HALT's own after a halt bug), go to the vector; 20 cycles. -/
def State.dispatch (s : State) (i : Fin 5) : State :=
  let s1 := s.setIo 0x0F (s.io 0x0F &&& ~~~(0x01#8 <<< i.val))
  let ret := if s.haltBug then s.pc - 1 else s.pc
  let s2 := { s1 with ime := false, eiPending := false, halted := false, haltBug := false }.push16 ret
  { s2 with pc := vectorOf i, cycles := 20 }

/-- The return from an interrupt (R667, R817): PC from the stack, IME 1 at once. -/
def State.returnFromInterrupt (s : State) : State :=
  { s.popped with pc := s.top16, ime := true, eiPending := false }

/-! ## Ending an instruction -/

/-- `cycles <- n`: the count the step returns (R800, R319). -/
def State.finish (s : State) (n : Nat) : Result := .next { s with cycles := n }

end Sys2Proof.Machine
end

