-- ==== Sys2Proof/Machine/Operands.lean ====
section
/-! DEFINITION. The operand forms (30_encoding R305 to R310): the byte at (HL), the high page, signed offsets,
conditions, and reading, writing and modifying an operand. -/

namespace Sys2Proof.Machine

/-- `MemRead(HL, 1)`: the operand `(HL)` read (R305, R309). -/
def State.readHl (s : State) : Byte := s.read s.hl

/-- `MemWrite(HL, 1, v)`: the operand `(HL)` written (R305, R309). -/
def State.writeHl (s : State) (v : Byte) : State := s.write s.hl v

/-- The high-page address `0xFF00 + n` (R308). -/
def highPage (n : Byte) : Word := 0xFF00#16 + n.setWidth 16

/-- `cond(cc)` (R310). -/
def State.cond (s : State) : Cond → Bool
  | .nz => !s.f.getLsbD 7
  | .z => s.f.getLsbD 7
  | .nc => !s.f.getLsbD 4
  | .c => s.f.getLsbD 4

/-- HL one up or one down, modulo 2^16 (R415 to R418). -/
def State.incHl (s : State) : State := s.setReg16 .hl (s.hl + 1)

/-- See `State.incHl`. -/
def State.decHl (s : State) : State := s.setReg16 .hl (s.hl - 1)

/-- `LD (nn),SP`'s store (R441): the low byte at `nn`, then the high byte at `nn + 1`. -/
def State.storeWord (s : State) (addr v : Word) : State :=
  (s.write addr (loByte v)).write (addr + 1) (hiByte v)

/-- A transfer that is taken or not, each way with its own count (R651, R654, R661, R666). -/
def State.branch (s : State) (taken : Bool) (thn : State) (takenCycles elseCycles : Nat) : Result :=
  if taken then thn.finish takenCycles else s.finish elseCycles

/-- `PC <- target`. -/
def State.jump (s : State) (target : Word) : State := { s with pc := target }

/-- `PC <- (PC + sext_16(e)) mod 2^16` (R653). -/
def State.jumpRelative (s : State) (e : Byte) : State := s.jump (s.pc + sext16 e)

/-- `Push16(PC); PC <- target` (R660, R668). -/
def State.call (s : State) (target : Word) : State := (s.push16 s.pc).jump target

/-- `PC <- Pop16()` (R665). -/
def State.ret (s : State) : State := s.popped.jump s.top16

end Sys2Proof.Machine
end

