-- ==== Sys2Proof/Machine/Flags.lean ====
section
/-! DEFINITION. Every flag computation (10_state R111): the 8-bit laws R500 and R501, the logic rules, INC and
DEC, DAA, the 16-bit adds, the rotates and shifts, and the bit test. -/

namespace Sys2Proof.Machine

/-- A flag byte `{Z, N, H, C, 0000}` (R102). -/
def packFlags (z n h c : Bool) : Byte :=
  (bit8 z <<< 7) ||| (bit8 n <<< 6) ||| (bit8 h <<< 5) ||| (bit8 c <<< 4)

/-- `F.Z`. -/
def State.flagZ (s : State) : Bool := s.f.getLsbD 7

/-- `F.N`. -/
def State.flagN (s : State) : Bool := s.f.getLsbD 6

/-- `F.H`. -/
def State.flagH (s : State) : Bool := s.f.getLsbD 5

/-- `F.C`. -/
def State.flagC (s : State) : Bool := s.f.getLsbD 4

/-- `F <- {Z, N, H, C, 0000}`. -/
def State.setFlags (s : State) (z n h c : Bool) : State := s.setF (packFlags z n h c)

/-- A result with its four flags. -/
structure AluOut where
  res : Byte
  z   : Bool
  n   : Bool
  h   : Bool
  c   : Bool
  deriving DecidableEq, Repr

/-- `add8` (R500). -/
def add8 (a b : Byte) (c : Bool) : AluOut :=
  let sum := a.toNat + b.toNat + c.toNat
  let res := BitVec.ofNat 8 sum
  { res := res, z := res = 0, n := false,
    h := a.toNat % 16 + b.toNat % 16 + c.toNat > 0x0F, c := sum > 0xFF }

/-- `sub8` (R501). -/
def sub8 (a b : Byte) (c : Bool) : AluOut :=
  let d : Int := (a.toNat : Int) - b.toNat - c.toNat
  let res := BitVec.ofInt 8 d
  { res := res, z := res = 0, n := true,
    h := (a.toNat : Int) % 16 - (b.toNat : Int) % 16 - c.toNat < 0, c := d < 0 }

/-- R515. -/
def and8 (a b : Byte) : AluOut := { res := a &&& b, z := a &&& b = 0, n := false, h := true, c := false }

/-- R518. -/
def xor8 (a b : Byte) : AluOut := { res := a ^^^ b, z := a ^^^ b = 0, n := false, h := false, c := false }

/-- R521. -/
def or8 (a b : Byte) : AluOut := { res := a ||| b, z := a ||| b = 0, n := false, h := false, c := false }

/-- R527: the carry flag is the one that comes in. -/
def inc8 (v : Byte) (c : Bool) : AluOut :=
  { res := v + 1, z := v + 1 = 0, n := false, h := v &&& 0x0F#8 = 0x0F#8, c := c }

/-- R529: the carry flag is the one that comes in. -/
def dec8 (v : Byte) (c : Bool) : AluOut :=
  { res := v - 1, z := v - 1 = 0, n := true, h := v &&& 0x0F#8 = 0x00#8, c := c }

/-- R531. -/
def daa8 (a : Byte) (n h c : Bool) : AluOut :=
  if n then
    let adj : Byte := (if c then 0x60#8 else 0) ||| (if h then 0x06#8 else 0)
    { res := a - adj, z := a - adj = 0, n := true, h := false, c := c }
  else
    let high := c || 0x99#8 < a
    let adj : Byte := (if high then 0x60#8 else 0) ||| (if h || 0x09#8 < a &&& 0x0F#8 then 0x06#8 else 0)
    { res := a + adj, z := a + adj = 0, n := false, h := false, c := high }

/-- `F <- {Z, N, H, C, 0000}` of a result, nothing else (R524: CP). -/
def State.setAluFlags (s : State) (o : AluOut) : State := s.setFlags o.z o.n o.h o.c

/-- `A <- res; F <- {Z, N, H, C, 0000}`. -/
def State.setAlu (s : State) (o : AluOut) : State := { s with a := o.res }.setAluFlags o

/-- H and C of the unsigned add of `e` to a low byte (R445, R551; 90_conflicts C5), Z and N clear. -/
def State.setSpFlags (s : State) (sp : Word) (e : Byte) : State :=
  s.setFlags false false (sp.toNat % 16 + e.toNat % 16 > 0x0F) (sp.toNat % 256 + e.toNat > 0xFF)

/-- ADD HL,rr (R550): Z as it was. -/
def State.addHl (s : State) (b : Word) : State :=
  let sum := s.hl.toNat + b.toNat
  (s.setReg16 .hl (BitVec.ofNat 16 sum)).setFlags s.flagZ false
    (s.hl.toNat % 0x1000 + b.toNat % 0x1000 > 0x0FFF) (sum > 0xFFFF)

/-- A shifted byte and the bit shifted out. -/
structure ShiftOut where
  res : Byte
  out : Bool
  deriving DecidableEq, Repr

/-- R604 (and R600). -/
def rlc8 (v : Byte) : ShiftOut := { res := (v <<< 1) ||| bit8 (v.getLsbD 7), out := v.getLsbD 7 }

/-- R606 (and R601). -/
def rrc8 (v : Byte) : ShiftOut := { res := (v >>> 1) ||| (bit8 (v.getLsbD 0) <<< 7), out := v.getLsbD 0 }

/-- R608 (and R602). -/
def rl8 (c : Bool) (v : Byte) : ShiftOut := { res := (v <<< 1) ||| bit8 c, out := v.getLsbD 7 }

/-- R610 (and R603). -/
def rr8 (c : Bool) (v : Byte) : ShiftOut := { res := (v >>> 1) ||| (bit8 c <<< 7), out := v.getLsbD 0 }

/-- R612. -/
def sla8 (v : Byte) : ShiftOut := { res := v <<< 1, out := v.getLsbD 7 }

/-- R614. -/
def sra8 (v : Byte) : ShiftOut := { res := (v >>> 1) ||| (v &&& 0x80#8), out := v.getLsbD 0 }

/-- R616: nothing is shifted out. -/
def swap8 (v : Byte) : ShiftOut := { res := (v <<< 4) ||| (v >>> 4), out := false }

/-- R618. -/
def srl8 (v : Byte) : ShiftOut := { res := v >>> 1, out := v.getLsbD 0 }

/-- The CB shifts' flags: `{r == 0, 0, 0, c, 0000}` (R604 to R619). -/
def State.setShiftFlags (s : State) (o : ShiftOut) : State := s.setFlags (o.res = 0) false false o.out

/-- The accumulator rotates: Z is cleared whatever the result (R600 to R603; 90_conflicts C6). -/
def State.rotateA (s : State) (o : ShiftOut) : State :=
  { s with a := o.res }.setFlags false false false o.out

/-- A CB shift of a register (R604 to R618). -/
def State.shiftReg (s : State) (r : Reg8) (o : ShiftOut) : State := (s.setReg r o.res).setShiftFlags o

/-- A CB shift of `(HL)` (R605 to R619): one read, then one write. -/
def State.shiftHl (s : State) (o : ShiftOut) : State := (s.writeHl o.res).setShiftFlags o

/-- BIT's flags: Z = NOT the tested bit, N = 0, H = 1, C unchanged (R620). -/
def State.testBit (s : State) (b : Nat) (v : Byte) : State := s.setFlags (!v.getLsbD b) false true s.flagC

/-- `v & ~(1 << b)` (R622). -/
def resetBit (b : Nat) (v : Byte) : Byte := v &&& ~~~(0x01#8 <<< b)

/-- `v | (1 << b)` (R624). -/
def setBit (b : Nat) (v : Byte) : Byte := v ||| (0x01#8 <<< b)

end Sys2Proof.Machine
end

