-- ==== Sys2Proof/Machine/Alu16.lean ====
section
/-! DEFINITION. 16-bit arithmetic (43_alu16, R550 to R553): one meaning for each instruction, the pc already past its bytes (R105). -/

namespace Sys2Proof.Machine

/-- INC BC (R552). -/
def exec_inc_bc (s : State) : Result := (s.setReg16 .bc (s.reg16 .bc + 1)).finish 8

/-- ADD HL,BC (R550). -/
def exec_add_hl_bc (s : State) : Result := (s.addHl (s.reg16 .bc)).finish 8

/-- DEC BC (R553). -/
def exec_dec_bc (s : State) : Result := (s.setReg16 .bc (s.reg16 .bc - 1)).finish 8

/-- INC DE (R552). -/
def exec_inc_de (s : State) : Result := (s.setReg16 .de (s.reg16 .de + 1)).finish 8

/-- ADD HL,DE (R550). -/
def exec_add_hl_de (s : State) : Result := (s.addHl (s.reg16 .de)).finish 8

/-- DEC DE (R553). -/
def exec_dec_de (s : State) : Result := (s.setReg16 .de (s.reg16 .de - 1)).finish 8

/-- INC HL (R552). -/
def exec_inc_hl (s : State) : Result := (s.setReg16 .hl (s.reg16 .hl + 1)).finish 8

/-- ADD HL,HL (R550). -/
def exec_add_hl_hl (s : State) : Result := (s.addHl (s.reg16 .hl)).finish 8

/-- DEC HL (R553). -/
def exec_dec_hl (s : State) : Result := (s.setReg16 .hl (s.reg16 .hl - 1)).finish 8

/-- INC SP (R552). -/
def exec_inc_sp (s : State) : Result := (s.setReg16 .sp (s.reg16 .sp + 1)).finish 8

/-- ADD HL,SP (R550). -/
def exec_add_hl_sp (s : State) : Result := (s.addHl (s.reg16 .sp)).finish 8

/-- DEC SP (R553). -/
def exec_dec_sp (s : State) : Result := (s.setReg16 .sp (s.reg16 .sp - 1)).finish 8

/-- ADD SP,e (R551). -/
def exec_add_sp_e (e : Byte) (s : State) : Result := ((s.setReg16 .sp (s.sp + sext16 e)).setSpFlags s.sp e).finish 16

end Sys2Proof.Machine
end

