-- ==== Sys2Proof/Machine/Alu8.lean ====
section
/-! DEFINITION. 8-bit arithmetic and logic (42_alu8, R502 to R534): one meaning for each instruction, the pc already past its bytes (R105). -/

namespace Sys2Proof.Machine

/-- INC B (R527). -/
def exec_inc_b (s : State) : Result :=
  let o := inc8 (s.reg .b) s.flagC
  ((s.setReg .b o.res).setAluFlags o).finish 4

/-- DEC B (R529). -/
def exec_dec_b (s : State) : Result :=
  let o := dec8 (s.reg .b) s.flagC
  ((s.setReg .b o.res).setAluFlags o).finish 4

/-- INC C (R527). -/
def exec_inc_c (s : State) : Result :=
  let o := inc8 (s.reg .c) s.flagC
  ((s.setReg .c o.res).setAluFlags o).finish 4

/-- DEC C (R529). -/
def exec_dec_c (s : State) : Result :=
  let o := dec8 (s.reg .c) s.flagC
  ((s.setReg .c o.res).setAluFlags o).finish 4

/-- INC D (R527). -/
def exec_inc_d (s : State) : Result :=
  let o := inc8 (s.reg .d) s.flagC
  ((s.setReg .d o.res).setAluFlags o).finish 4

/-- DEC D (R529). -/
def exec_dec_d (s : State) : Result :=
  let o := dec8 (s.reg .d) s.flagC
  ((s.setReg .d o.res).setAluFlags o).finish 4

/-- INC E (R527). -/
def exec_inc_e (s : State) : Result :=
  let o := inc8 (s.reg .e) s.flagC
  ((s.setReg .e o.res).setAluFlags o).finish 4

/-- DEC E (R529). -/
def exec_dec_e (s : State) : Result :=
  let o := dec8 (s.reg .e) s.flagC
  ((s.setReg .e o.res).setAluFlags o).finish 4

/-- INC H (R527). -/
def exec_inc_h (s : State) : Result :=
  let o := inc8 (s.reg .h) s.flagC
  ((s.setReg .h o.res).setAluFlags o).finish 4

/-- DEC H (R529). -/
def exec_dec_h (s : State) : Result :=
  let o := dec8 (s.reg .h) s.flagC
  ((s.setReg .h o.res).setAluFlags o).finish 4

/-- DAA (R531). -/
def exec_daa (s : State) : Result := (s.setAlu (daa8 s.a s.flagN s.flagH s.flagC)).finish 4

/-- INC L (R527). -/
def exec_inc_l (s : State) : Result :=
  let o := inc8 (s.reg .l) s.flagC
  ((s.setReg .l o.res).setAluFlags o).finish 4

/-- DEC L (R529). -/
def exec_dec_l (s : State) : Result :=
  let o := dec8 (s.reg .l) s.flagC
  ((s.setReg .l o.res).setAluFlags o).finish 4

/-- CPL (R532). -/
def exec_cpl (s : State) : Result := ({ s with a := s.a ^^^ 0xFF#8 }.setFlags s.flagZ true true s.flagC).finish 4

/-- INC (HL) (R528). -/
def exec_inc_mhl (s : State) : Result :=
  let o := inc8 s.readHl s.flagC
  ((s.writeHl o.res).setAluFlags o).finish 12

/-- DEC (HL) (R530). -/
def exec_dec_mhl (s : State) : Result :=
  let o := dec8 s.readHl s.flagC
  ((s.writeHl o.res).setAluFlags o).finish 12

/-- SCF (R533). -/
def exec_scf (s : State) : Result := (s.setFlags s.flagZ false false true).finish 4

/-- INC A (R527). -/
def exec_inc_a (s : State) : Result :=
  let o := inc8 (s.reg .a) s.flagC
  ((s.setReg .a o.res).setAluFlags o).finish 4

/-- DEC A (R529). -/
def exec_dec_a (s : State) : Result :=
  let o := dec8 (s.reg .a) s.flagC
  ((s.setReg .a o.res).setAluFlags o).finish 4

/-- CCF (R534). -/
def exec_ccf (s : State) : Result := (s.setFlags s.flagZ false false (!s.flagC)).finish 4

/-- ADD A,B (R503). -/
def exec_add_a_b (s : State) : Result := (s.setAlu (add8 s.a (s.reg .b) false)).finish 4

/-- ADD A,C (R503). -/
def exec_add_a_c (s : State) : Result := (s.setAlu (add8 s.a (s.reg .c) false)).finish 4

/-- ADD A,D (R503). -/
def exec_add_a_d (s : State) : Result := (s.setAlu (add8 s.a (s.reg .d) false)).finish 4

/-- ADD A,E (R503). -/
def exec_add_a_e (s : State) : Result := (s.setAlu (add8 s.a (s.reg .e) false)).finish 4

/-- ADD A,H (R503). -/
def exec_add_a_h (s : State) : Result := (s.setAlu (add8 s.a (s.reg .h) false)).finish 4

/-- ADD A,L (R503). -/
def exec_add_a_l (s : State) : Result := (s.setAlu (add8 s.a (s.reg .l) false)).finish 4

/-- ADD A,(HL) (R504). -/
def exec_add_a_mhl (s : State) : Result := (s.setAlu (add8 s.a s.readHl false)).finish 8

/-- ADD A,A (R503). -/
def exec_add_a_a (s : State) : Result := (s.setAlu (add8 s.a (s.reg .a) false)).finish 4

/-- ADC A,B (R506). -/
def exec_adc_a_b (s : State) : Result := (s.setAlu (add8 s.a (s.reg .b) s.flagC)).finish 4

/-- ADC A,C (R506). -/
def exec_adc_a_c (s : State) : Result := (s.setAlu (add8 s.a (s.reg .c) s.flagC)).finish 4

/-- ADC A,D (R506). -/
def exec_adc_a_d (s : State) : Result := (s.setAlu (add8 s.a (s.reg .d) s.flagC)).finish 4

/-- ADC A,E (R506). -/
def exec_adc_a_e (s : State) : Result := (s.setAlu (add8 s.a (s.reg .e) s.flagC)).finish 4

/-- ADC A,H (R506). -/
def exec_adc_a_h (s : State) : Result := (s.setAlu (add8 s.a (s.reg .h) s.flagC)).finish 4

/-- ADC A,L (R506). -/
def exec_adc_a_l (s : State) : Result := (s.setAlu (add8 s.a (s.reg .l) s.flagC)).finish 4

/-- ADC A,(HL) (R507). -/
def exec_adc_a_mhl (s : State) : Result := (s.setAlu (add8 s.a s.readHl s.flagC)).finish 8

/-- ADC A,A (R506). -/
def exec_adc_a_a (s : State) : Result := (s.setAlu (add8 s.a (s.reg .a) s.flagC)).finish 4

/-- SUB B (R509). -/
def exec_sub_b (s : State) : Result := (s.setAlu (sub8 s.a (s.reg .b) false)).finish 4

/-- SUB C (R509). -/
def exec_sub_c (s : State) : Result := (s.setAlu (sub8 s.a (s.reg .c) false)).finish 4

/-- SUB D (R509). -/
def exec_sub_d (s : State) : Result := (s.setAlu (sub8 s.a (s.reg .d) false)).finish 4

/-- SUB E (R509). -/
def exec_sub_e (s : State) : Result := (s.setAlu (sub8 s.a (s.reg .e) false)).finish 4

/-- SUB H (R509). -/
def exec_sub_h (s : State) : Result := (s.setAlu (sub8 s.a (s.reg .h) false)).finish 4

/-- SUB L (R509). -/
def exec_sub_l (s : State) : Result := (s.setAlu (sub8 s.a (s.reg .l) false)).finish 4

/-- SUB (HL) (R510). -/
def exec_sub_mhl (s : State) : Result := (s.setAlu (sub8 s.a s.readHl false)).finish 8

/-- SUB A (R509). -/
def exec_sub_a (s : State) : Result := (s.setAlu (sub8 s.a (s.reg .a) false)).finish 4

/-- SBC A,B (R512). -/
def exec_sbc_a_b (s : State) : Result := (s.setAlu (sub8 s.a (s.reg .b) s.flagC)).finish 4

/-- SBC A,C (R512). -/
def exec_sbc_a_c (s : State) : Result := (s.setAlu (sub8 s.a (s.reg .c) s.flagC)).finish 4

/-- SBC A,D (R512). -/
def exec_sbc_a_d (s : State) : Result := (s.setAlu (sub8 s.a (s.reg .d) s.flagC)).finish 4

/-- SBC A,E (R512). -/
def exec_sbc_a_e (s : State) : Result := (s.setAlu (sub8 s.a (s.reg .e) s.flagC)).finish 4

/-- SBC A,H (R512). -/
def exec_sbc_a_h (s : State) : Result := (s.setAlu (sub8 s.a (s.reg .h) s.flagC)).finish 4

/-- SBC A,L (R512). -/
def exec_sbc_a_l (s : State) : Result := (s.setAlu (sub8 s.a (s.reg .l) s.flagC)).finish 4

/-- SBC A,(HL) (R513). -/
def exec_sbc_a_mhl (s : State) : Result := (s.setAlu (sub8 s.a s.readHl s.flagC)).finish 8

/-- SBC A,A (R512). -/
def exec_sbc_a_a (s : State) : Result := (s.setAlu (sub8 s.a (s.reg .a) s.flagC)).finish 4

/-- AND B (R515). -/
def exec_and_b (s : State) : Result := (s.setAlu (and8 s.a (s.reg .b))).finish 4

/-- AND C (R515). -/
def exec_and_c (s : State) : Result := (s.setAlu (and8 s.a (s.reg .c))).finish 4

/-- AND D (R515). -/
def exec_and_d (s : State) : Result := (s.setAlu (and8 s.a (s.reg .d))).finish 4

/-- AND E (R515). -/
def exec_and_e (s : State) : Result := (s.setAlu (and8 s.a (s.reg .e))).finish 4

/-- AND H (R515). -/
def exec_and_h (s : State) : Result := (s.setAlu (and8 s.a (s.reg .h))).finish 4

/-- AND L (R515). -/
def exec_and_l (s : State) : Result := (s.setAlu (and8 s.a (s.reg .l))).finish 4

/-- AND (HL) (R516). -/
def exec_and_mhl (s : State) : Result := (s.setAlu (and8 s.a s.readHl)).finish 8

/-- AND A (R515). -/
def exec_and_a (s : State) : Result := (s.setAlu (and8 s.a (s.reg .a))).finish 4

/-- XOR B (R518). -/
def exec_xor_b (s : State) : Result := (s.setAlu (xor8 s.a (s.reg .b))).finish 4

/-- XOR C (R518). -/
def exec_xor_c (s : State) : Result := (s.setAlu (xor8 s.a (s.reg .c))).finish 4

/-- XOR D (R518). -/
def exec_xor_d (s : State) : Result := (s.setAlu (xor8 s.a (s.reg .d))).finish 4

/-- XOR E (R518). -/
def exec_xor_e (s : State) : Result := (s.setAlu (xor8 s.a (s.reg .e))).finish 4

/-- XOR H (R518). -/
def exec_xor_h (s : State) : Result := (s.setAlu (xor8 s.a (s.reg .h))).finish 4

/-- XOR L (R518). -/
def exec_xor_l (s : State) : Result := (s.setAlu (xor8 s.a (s.reg .l))).finish 4

/-- XOR (HL) (R519). -/
def exec_xor_mhl (s : State) : Result := (s.setAlu (xor8 s.a s.readHl)).finish 8

/-- XOR A (R518). -/
def exec_xor_a (s : State) : Result := (s.setAlu (xor8 s.a (s.reg .a))).finish 4

/-- OR B (R521). -/
def exec_or_b (s : State) : Result := (s.setAlu (or8 s.a (s.reg .b))).finish 4

/-- OR C (R521). -/
def exec_or_c (s : State) : Result := (s.setAlu (or8 s.a (s.reg .c))).finish 4

/-- OR D (R521). -/
def exec_or_d (s : State) : Result := (s.setAlu (or8 s.a (s.reg .d))).finish 4

/-- OR E (R521). -/
def exec_or_e (s : State) : Result := (s.setAlu (or8 s.a (s.reg .e))).finish 4

/-- OR H (R521). -/
def exec_or_h (s : State) : Result := (s.setAlu (or8 s.a (s.reg .h))).finish 4

/-- OR L (R521). -/
def exec_or_l (s : State) : Result := (s.setAlu (or8 s.a (s.reg .l))).finish 4

/-- OR (HL) (R522). -/
def exec_or_mhl (s : State) : Result := (s.setAlu (or8 s.a s.readHl)).finish 8

/-- OR A (R521). -/
def exec_or_a (s : State) : Result := (s.setAlu (or8 s.a (s.reg .a))).finish 4

/-- CP B (R524). -/
def exec_cp_b (s : State) : Result := (s.setAluFlags (sub8 s.a (s.reg .b) false)).finish 4

/-- CP C (R524). -/
def exec_cp_c (s : State) : Result := (s.setAluFlags (sub8 s.a (s.reg .c) false)).finish 4

/-- CP D (R524). -/
def exec_cp_d (s : State) : Result := (s.setAluFlags (sub8 s.a (s.reg .d) false)).finish 4

/-- CP E (R524). -/
def exec_cp_e (s : State) : Result := (s.setAluFlags (sub8 s.a (s.reg .e) false)).finish 4

/-- CP H (R524). -/
def exec_cp_h (s : State) : Result := (s.setAluFlags (sub8 s.a (s.reg .h) false)).finish 4

/-- CP L (R524). -/
def exec_cp_l (s : State) : Result := (s.setAluFlags (sub8 s.a (s.reg .l) false)).finish 4

/-- CP (HL) (R525). -/
def exec_cp_mhl (s : State) : Result := (s.setAluFlags (sub8 s.a s.readHl false)).finish 8

/-- CP A (R524). -/
def exec_cp_a (s : State) : Result := (s.setAluFlags (sub8 s.a (s.reg .a) false)).finish 4

/-- ADD A,n (R505). -/
def exec_add_a_n (n : Byte) (s : State) : Result := (s.setAlu (add8 s.a n false)).finish 8

/-- ADC A,n (R508). -/
def exec_adc_a_n (n : Byte) (s : State) : Result := (s.setAlu (add8 s.a n s.flagC)).finish 8

/-- SUB n (R511). -/
def exec_sub_n (n : Byte) (s : State) : Result := (s.setAlu (sub8 s.a n false)).finish 8

/-- SBC A,n (R514). -/
def exec_sbc_a_n (n : Byte) (s : State) : Result := (s.setAlu (sub8 s.a n s.flagC)).finish 8

/-- AND n (R517). -/
def exec_and_n (n : Byte) (s : State) : Result := (s.setAlu (and8 s.a n)).finish 8

/-- XOR n (R520). -/
def exec_xor_n (n : Byte) (s : State) : Result := (s.setAlu (xor8 s.a n)).finish 8

/-- OR n (R523). -/
def exec_or_n (n : Byte) (s : State) : Result := (s.setAlu (or8 s.a n)).finish 8

/-- CP n (R526). -/
def exec_cp_n (n : Byte) (s : State) : Result := (s.setAluFlags (sub8 s.a n false)).finish 8

end Sys2Proof.Machine
end

