-- ==== Sys2Proof/Machine/Bits.lean ====
section
/-! DEFINITION. Bit test, reset and set (44_rotate_shift_bit, R620 to R625): one meaning for each instruction, the pc already past its bytes (R105). -/

namespace Sys2Proof.Machine

/-- BIT 0,B (R620). -/
def exec_bit_0_b (s : State) : Result := (s.testBit 0 (s.reg .b)).finish 8

/-- BIT 0,C (R620). -/
def exec_bit_0_c (s : State) : Result := (s.testBit 0 (s.reg .c)).finish 8

/-- BIT 0,D (R620). -/
def exec_bit_0_d (s : State) : Result := (s.testBit 0 (s.reg .d)).finish 8

/-- BIT 0,E (R620). -/
def exec_bit_0_e (s : State) : Result := (s.testBit 0 (s.reg .e)).finish 8

/-- BIT 0,H (R620). -/
def exec_bit_0_h (s : State) : Result := (s.testBit 0 (s.reg .h)).finish 8

/-- BIT 0,L (R620). -/
def exec_bit_0_l (s : State) : Result := (s.testBit 0 (s.reg .l)).finish 8

/-- BIT 0,(HL) (R621). -/
def exec_bit_0_mhl (s : State) : Result := (s.testBit 0 s.readHl).finish 12

/-- BIT 0,A (R620). -/
def exec_bit_0_a (s : State) : Result := (s.testBit 0 (s.reg .a)).finish 8

/-- BIT 1,B (R620). -/
def exec_bit_1_b (s : State) : Result := (s.testBit 1 (s.reg .b)).finish 8

/-- BIT 1,C (R620). -/
def exec_bit_1_c (s : State) : Result := (s.testBit 1 (s.reg .c)).finish 8

/-- BIT 1,D (R620). -/
def exec_bit_1_d (s : State) : Result := (s.testBit 1 (s.reg .d)).finish 8

/-- BIT 1,E (R620). -/
def exec_bit_1_e (s : State) : Result := (s.testBit 1 (s.reg .e)).finish 8

/-- BIT 1,H (R620). -/
def exec_bit_1_h (s : State) : Result := (s.testBit 1 (s.reg .h)).finish 8

/-- BIT 1,L (R620). -/
def exec_bit_1_l (s : State) : Result := (s.testBit 1 (s.reg .l)).finish 8

/-- BIT 1,(HL) (R621). -/
def exec_bit_1_mhl (s : State) : Result := (s.testBit 1 s.readHl).finish 12

/-- BIT 1,A (R620). -/
def exec_bit_1_a (s : State) : Result := (s.testBit 1 (s.reg .a)).finish 8

/-- BIT 2,B (R620). -/
def exec_bit_2_b (s : State) : Result := (s.testBit 2 (s.reg .b)).finish 8

/-- BIT 2,C (R620). -/
def exec_bit_2_c (s : State) : Result := (s.testBit 2 (s.reg .c)).finish 8

/-- BIT 2,D (R620). -/
def exec_bit_2_d (s : State) : Result := (s.testBit 2 (s.reg .d)).finish 8

/-- BIT 2,E (R620). -/
def exec_bit_2_e (s : State) : Result := (s.testBit 2 (s.reg .e)).finish 8

/-- BIT 2,H (R620). -/
def exec_bit_2_h (s : State) : Result := (s.testBit 2 (s.reg .h)).finish 8

/-- BIT 2,L (R620). -/
def exec_bit_2_l (s : State) : Result := (s.testBit 2 (s.reg .l)).finish 8

/-- BIT 2,(HL) (R621). -/
def exec_bit_2_mhl (s : State) : Result := (s.testBit 2 s.readHl).finish 12

/-- BIT 2,A (R620). -/
def exec_bit_2_a (s : State) : Result := (s.testBit 2 (s.reg .a)).finish 8

/-- BIT 3,B (R620). -/
def exec_bit_3_b (s : State) : Result := (s.testBit 3 (s.reg .b)).finish 8

/-- BIT 3,C (R620). -/
def exec_bit_3_c (s : State) : Result := (s.testBit 3 (s.reg .c)).finish 8

/-- BIT 3,D (R620). -/
def exec_bit_3_d (s : State) : Result := (s.testBit 3 (s.reg .d)).finish 8

/-- BIT 3,E (R620). -/
def exec_bit_3_e (s : State) : Result := (s.testBit 3 (s.reg .e)).finish 8

/-- BIT 3,H (R620). -/
def exec_bit_3_h (s : State) : Result := (s.testBit 3 (s.reg .h)).finish 8

/-- BIT 3,L (R620). -/
def exec_bit_3_l (s : State) : Result := (s.testBit 3 (s.reg .l)).finish 8

/-- BIT 3,(HL) (R621). -/
def exec_bit_3_mhl (s : State) : Result := (s.testBit 3 s.readHl).finish 12

/-- BIT 3,A (R620). -/
def exec_bit_3_a (s : State) : Result := (s.testBit 3 (s.reg .a)).finish 8

/-- BIT 4,B (R620). -/
def exec_bit_4_b (s : State) : Result := (s.testBit 4 (s.reg .b)).finish 8

/-- BIT 4,C (R620). -/
def exec_bit_4_c (s : State) : Result := (s.testBit 4 (s.reg .c)).finish 8

/-- BIT 4,D (R620). -/
def exec_bit_4_d (s : State) : Result := (s.testBit 4 (s.reg .d)).finish 8

/-- BIT 4,E (R620). -/
def exec_bit_4_e (s : State) : Result := (s.testBit 4 (s.reg .e)).finish 8

/-- BIT 4,H (R620). -/
def exec_bit_4_h (s : State) : Result := (s.testBit 4 (s.reg .h)).finish 8

/-- BIT 4,L (R620). -/
def exec_bit_4_l (s : State) : Result := (s.testBit 4 (s.reg .l)).finish 8

/-- BIT 4,(HL) (R621). -/
def exec_bit_4_mhl (s : State) : Result := (s.testBit 4 s.readHl).finish 12

/-- BIT 4,A (R620). -/
def exec_bit_4_a (s : State) : Result := (s.testBit 4 (s.reg .a)).finish 8

/-- BIT 5,B (R620). -/
def exec_bit_5_b (s : State) : Result := (s.testBit 5 (s.reg .b)).finish 8

/-- BIT 5,C (R620). -/
def exec_bit_5_c (s : State) : Result := (s.testBit 5 (s.reg .c)).finish 8

/-- BIT 5,D (R620). -/
def exec_bit_5_d (s : State) : Result := (s.testBit 5 (s.reg .d)).finish 8

/-- BIT 5,E (R620). -/
def exec_bit_5_e (s : State) : Result := (s.testBit 5 (s.reg .e)).finish 8

/-- BIT 5,H (R620). -/
def exec_bit_5_h (s : State) : Result := (s.testBit 5 (s.reg .h)).finish 8

/-- BIT 5,L (R620). -/
def exec_bit_5_l (s : State) : Result := (s.testBit 5 (s.reg .l)).finish 8

/-- BIT 5,(HL) (R621). -/
def exec_bit_5_mhl (s : State) : Result := (s.testBit 5 s.readHl).finish 12

/-- BIT 5,A (R620). -/
def exec_bit_5_a (s : State) : Result := (s.testBit 5 (s.reg .a)).finish 8

/-- BIT 6,B (R620). -/
def exec_bit_6_b (s : State) : Result := (s.testBit 6 (s.reg .b)).finish 8

/-- BIT 6,C (R620). -/
def exec_bit_6_c (s : State) : Result := (s.testBit 6 (s.reg .c)).finish 8

/-- BIT 6,D (R620). -/
def exec_bit_6_d (s : State) : Result := (s.testBit 6 (s.reg .d)).finish 8

/-- BIT 6,E (R620). -/
def exec_bit_6_e (s : State) : Result := (s.testBit 6 (s.reg .e)).finish 8

/-- BIT 6,H (R620). -/
def exec_bit_6_h (s : State) : Result := (s.testBit 6 (s.reg .h)).finish 8

/-- BIT 6,L (R620). -/
def exec_bit_6_l (s : State) : Result := (s.testBit 6 (s.reg .l)).finish 8

/-- BIT 6,(HL) (R621). -/
def exec_bit_6_mhl (s : State) : Result := (s.testBit 6 s.readHl).finish 12

/-- BIT 6,A (R620). -/
def exec_bit_6_a (s : State) : Result := (s.testBit 6 (s.reg .a)).finish 8

/-- BIT 7,B (R620). -/
def exec_bit_7_b (s : State) : Result := (s.testBit 7 (s.reg .b)).finish 8

/-- BIT 7,C (R620). -/
def exec_bit_7_c (s : State) : Result := (s.testBit 7 (s.reg .c)).finish 8

/-- BIT 7,D (R620). -/
def exec_bit_7_d (s : State) : Result := (s.testBit 7 (s.reg .d)).finish 8

/-- BIT 7,E (R620). -/
def exec_bit_7_e (s : State) : Result := (s.testBit 7 (s.reg .e)).finish 8

/-- BIT 7,H (R620). -/
def exec_bit_7_h (s : State) : Result := (s.testBit 7 (s.reg .h)).finish 8

/-- BIT 7,L (R620). -/
def exec_bit_7_l (s : State) : Result := (s.testBit 7 (s.reg .l)).finish 8

/-- BIT 7,(HL) (R621). -/
def exec_bit_7_mhl (s : State) : Result := (s.testBit 7 s.readHl).finish 12

/-- BIT 7,A (R620). -/
def exec_bit_7_a (s : State) : Result := (s.testBit 7 (s.reg .a)).finish 8

/-- RES 0,B (R622). -/
def exec_res_0_b (s : State) : Result := (s.setReg .b (resetBit 0 (s.reg .b))).finish 8

/-- RES 0,C (R622). -/
def exec_res_0_c (s : State) : Result := (s.setReg .c (resetBit 0 (s.reg .c))).finish 8

/-- RES 0,D (R622). -/
def exec_res_0_d (s : State) : Result := (s.setReg .d (resetBit 0 (s.reg .d))).finish 8

/-- RES 0,E (R622). -/
def exec_res_0_e (s : State) : Result := (s.setReg .e (resetBit 0 (s.reg .e))).finish 8

/-- RES 0,H (R622). -/
def exec_res_0_h (s : State) : Result := (s.setReg .h (resetBit 0 (s.reg .h))).finish 8

/-- RES 0,L (R622). -/
def exec_res_0_l (s : State) : Result := (s.setReg .l (resetBit 0 (s.reg .l))).finish 8

/-- RES 0,(HL) (R623). -/
def exec_res_0_mhl (s : State) : Result := (s.writeHl (resetBit 0 s.readHl)).finish 16

/-- RES 0,A (R622). -/
def exec_res_0_a (s : State) : Result := (s.setReg .a (resetBit 0 (s.reg .a))).finish 8

/-- RES 1,B (R622). -/
def exec_res_1_b (s : State) : Result := (s.setReg .b (resetBit 1 (s.reg .b))).finish 8

/-- RES 1,C (R622). -/
def exec_res_1_c (s : State) : Result := (s.setReg .c (resetBit 1 (s.reg .c))).finish 8

/-- RES 1,D (R622). -/
def exec_res_1_d (s : State) : Result := (s.setReg .d (resetBit 1 (s.reg .d))).finish 8

/-- RES 1,E (R622). -/
def exec_res_1_e (s : State) : Result := (s.setReg .e (resetBit 1 (s.reg .e))).finish 8

/-- RES 1,H (R622). -/
def exec_res_1_h (s : State) : Result := (s.setReg .h (resetBit 1 (s.reg .h))).finish 8

/-- RES 1,L (R622). -/
def exec_res_1_l (s : State) : Result := (s.setReg .l (resetBit 1 (s.reg .l))).finish 8

/-- RES 1,(HL) (R623). -/
def exec_res_1_mhl (s : State) : Result := (s.writeHl (resetBit 1 s.readHl)).finish 16

/-- RES 1,A (R622). -/
def exec_res_1_a (s : State) : Result := (s.setReg .a (resetBit 1 (s.reg .a))).finish 8

/-- RES 2,B (R622). -/
def exec_res_2_b (s : State) : Result := (s.setReg .b (resetBit 2 (s.reg .b))).finish 8

/-- RES 2,C (R622). -/
def exec_res_2_c (s : State) : Result := (s.setReg .c (resetBit 2 (s.reg .c))).finish 8

/-- RES 2,D (R622). -/
def exec_res_2_d (s : State) : Result := (s.setReg .d (resetBit 2 (s.reg .d))).finish 8

/-- RES 2,E (R622). -/
def exec_res_2_e (s : State) : Result := (s.setReg .e (resetBit 2 (s.reg .e))).finish 8

/-- RES 2,H (R622). -/
def exec_res_2_h (s : State) : Result := (s.setReg .h (resetBit 2 (s.reg .h))).finish 8

/-- RES 2,L (R622). -/
def exec_res_2_l (s : State) : Result := (s.setReg .l (resetBit 2 (s.reg .l))).finish 8

/-- RES 2,(HL) (R623). -/
def exec_res_2_mhl (s : State) : Result := (s.writeHl (resetBit 2 s.readHl)).finish 16

/-- RES 2,A (R622). -/
def exec_res_2_a (s : State) : Result := (s.setReg .a (resetBit 2 (s.reg .a))).finish 8

/-- RES 3,B (R622). -/
def exec_res_3_b (s : State) : Result := (s.setReg .b (resetBit 3 (s.reg .b))).finish 8

/-- RES 3,C (R622). -/
def exec_res_3_c (s : State) : Result := (s.setReg .c (resetBit 3 (s.reg .c))).finish 8

/-- RES 3,D (R622). -/
def exec_res_3_d (s : State) : Result := (s.setReg .d (resetBit 3 (s.reg .d))).finish 8

/-- RES 3,E (R622). -/
def exec_res_3_e (s : State) : Result := (s.setReg .e (resetBit 3 (s.reg .e))).finish 8

/-- RES 3,H (R622). -/
def exec_res_3_h (s : State) : Result := (s.setReg .h (resetBit 3 (s.reg .h))).finish 8

/-- RES 3,L (R622). -/
def exec_res_3_l (s : State) : Result := (s.setReg .l (resetBit 3 (s.reg .l))).finish 8

/-- RES 3,(HL) (R623). -/
def exec_res_3_mhl (s : State) : Result := (s.writeHl (resetBit 3 s.readHl)).finish 16

/-- RES 3,A (R622). -/
def exec_res_3_a (s : State) : Result := (s.setReg .a (resetBit 3 (s.reg .a))).finish 8

/-- RES 4,B (R622). -/
def exec_res_4_b (s : State) : Result := (s.setReg .b (resetBit 4 (s.reg .b))).finish 8

/-- RES 4,C (R622). -/
def exec_res_4_c (s : State) : Result := (s.setReg .c (resetBit 4 (s.reg .c))).finish 8

/-- RES 4,D (R622). -/
def exec_res_4_d (s : State) : Result := (s.setReg .d (resetBit 4 (s.reg .d))).finish 8

/-- RES 4,E (R622). -/
def exec_res_4_e (s : State) : Result := (s.setReg .e (resetBit 4 (s.reg .e))).finish 8

/-- RES 4,H (R622). -/
def exec_res_4_h (s : State) : Result := (s.setReg .h (resetBit 4 (s.reg .h))).finish 8

/-- RES 4,L (R622). -/
def exec_res_4_l (s : State) : Result := (s.setReg .l (resetBit 4 (s.reg .l))).finish 8

/-- RES 4,(HL) (R623). -/
def exec_res_4_mhl (s : State) : Result := (s.writeHl (resetBit 4 s.readHl)).finish 16

/-- RES 4,A (R622). -/
def exec_res_4_a (s : State) : Result := (s.setReg .a (resetBit 4 (s.reg .a))).finish 8

/-- RES 5,B (R622). -/
def exec_res_5_b (s : State) : Result := (s.setReg .b (resetBit 5 (s.reg .b))).finish 8

/-- RES 5,C (R622). -/
def exec_res_5_c (s : State) : Result := (s.setReg .c (resetBit 5 (s.reg .c))).finish 8

/-- RES 5,D (R622). -/
def exec_res_5_d (s : State) : Result := (s.setReg .d (resetBit 5 (s.reg .d))).finish 8

/-- RES 5,E (R622). -/
def exec_res_5_e (s : State) : Result := (s.setReg .e (resetBit 5 (s.reg .e))).finish 8

/-- RES 5,H (R622). -/
def exec_res_5_h (s : State) : Result := (s.setReg .h (resetBit 5 (s.reg .h))).finish 8

/-- RES 5,L (R622). -/
def exec_res_5_l (s : State) : Result := (s.setReg .l (resetBit 5 (s.reg .l))).finish 8

/-- RES 5,(HL) (R623). -/
def exec_res_5_mhl (s : State) : Result := (s.writeHl (resetBit 5 s.readHl)).finish 16

/-- RES 5,A (R622). -/
def exec_res_5_a (s : State) : Result := (s.setReg .a (resetBit 5 (s.reg .a))).finish 8

/-- RES 6,B (R622). -/
def exec_res_6_b (s : State) : Result := (s.setReg .b (resetBit 6 (s.reg .b))).finish 8

/-- RES 6,C (R622). -/
def exec_res_6_c (s : State) : Result := (s.setReg .c (resetBit 6 (s.reg .c))).finish 8

/-- RES 6,D (R622). -/
def exec_res_6_d (s : State) : Result := (s.setReg .d (resetBit 6 (s.reg .d))).finish 8

/-- RES 6,E (R622). -/
def exec_res_6_e (s : State) : Result := (s.setReg .e (resetBit 6 (s.reg .e))).finish 8

/-- RES 6,H (R622). -/
def exec_res_6_h (s : State) : Result := (s.setReg .h (resetBit 6 (s.reg .h))).finish 8

/-- RES 6,L (R622). -/
def exec_res_6_l (s : State) : Result := (s.setReg .l (resetBit 6 (s.reg .l))).finish 8

/-- RES 6,(HL) (R623). -/
def exec_res_6_mhl (s : State) : Result := (s.writeHl (resetBit 6 s.readHl)).finish 16

/-- RES 6,A (R622). -/
def exec_res_6_a (s : State) : Result := (s.setReg .a (resetBit 6 (s.reg .a))).finish 8

/-- RES 7,B (R622). -/
def exec_res_7_b (s : State) : Result := (s.setReg .b (resetBit 7 (s.reg .b))).finish 8

/-- RES 7,C (R622). -/
def exec_res_7_c (s : State) : Result := (s.setReg .c (resetBit 7 (s.reg .c))).finish 8

/-- RES 7,D (R622). -/
def exec_res_7_d (s : State) : Result := (s.setReg .d (resetBit 7 (s.reg .d))).finish 8

/-- RES 7,E (R622). -/
def exec_res_7_e (s : State) : Result := (s.setReg .e (resetBit 7 (s.reg .e))).finish 8

/-- RES 7,H (R622). -/
def exec_res_7_h (s : State) : Result := (s.setReg .h (resetBit 7 (s.reg .h))).finish 8

/-- RES 7,L (R622). -/
def exec_res_7_l (s : State) : Result := (s.setReg .l (resetBit 7 (s.reg .l))).finish 8

/-- RES 7,(HL) (R623). -/
def exec_res_7_mhl (s : State) : Result := (s.writeHl (resetBit 7 s.readHl)).finish 16

/-- RES 7,A (R622). -/
def exec_res_7_a (s : State) : Result := (s.setReg .a (resetBit 7 (s.reg .a))).finish 8

/-- SET 0,B (R624). -/
def exec_set_0_b (s : State) : Result := (s.setReg .b (setBit 0 (s.reg .b))).finish 8

/-- SET 0,C (R624). -/
def exec_set_0_c (s : State) : Result := (s.setReg .c (setBit 0 (s.reg .c))).finish 8

/-- SET 0,D (R624). -/
def exec_set_0_d (s : State) : Result := (s.setReg .d (setBit 0 (s.reg .d))).finish 8

/-- SET 0,E (R624). -/
def exec_set_0_e (s : State) : Result := (s.setReg .e (setBit 0 (s.reg .e))).finish 8

/-- SET 0,H (R624). -/
def exec_set_0_h (s : State) : Result := (s.setReg .h (setBit 0 (s.reg .h))).finish 8

/-- SET 0,L (R624). -/
def exec_set_0_l (s : State) : Result := (s.setReg .l (setBit 0 (s.reg .l))).finish 8

/-- SET 0,(HL) (R625). -/
def exec_set_0_mhl (s : State) : Result := (s.writeHl (setBit 0 s.readHl)).finish 16

/-- SET 0,A (R624). -/
def exec_set_0_a (s : State) : Result := (s.setReg .a (setBit 0 (s.reg .a))).finish 8

/-- SET 1,B (R624). -/
def exec_set_1_b (s : State) : Result := (s.setReg .b (setBit 1 (s.reg .b))).finish 8

/-- SET 1,C (R624). -/
def exec_set_1_c (s : State) : Result := (s.setReg .c (setBit 1 (s.reg .c))).finish 8

/-- SET 1,D (R624). -/
def exec_set_1_d (s : State) : Result := (s.setReg .d (setBit 1 (s.reg .d))).finish 8

/-- SET 1,E (R624). -/
def exec_set_1_e (s : State) : Result := (s.setReg .e (setBit 1 (s.reg .e))).finish 8

/-- SET 1,H (R624). -/
def exec_set_1_h (s : State) : Result := (s.setReg .h (setBit 1 (s.reg .h))).finish 8

/-- SET 1,L (R624). -/
def exec_set_1_l (s : State) : Result := (s.setReg .l (setBit 1 (s.reg .l))).finish 8

/-- SET 1,(HL) (R625). -/
def exec_set_1_mhl (s : State) : Result := (s.writeHl (setBit 1 s.readHl)).finish 16

/-- SET 1,A (R624). -/
def exec_set_1_a (s : State) : Result := (s.setReg .a (setBit 1 (s.reg .a))).finish 8

/-- SET 2,B (R624). -/
def exec_set_2_b (s : State) : Result := (s.setReg .b (setBit 2 (s.reg .b))).finish 8

/-- SET 2,C (R624). -/
def exec_set_2_c (s : State) : Result := (s.setReg .c (setBit 2 (s.reg .c))).finish 8

/-- SET 2,D (R624). -/
def exec_set_2_d (s : State) : Result := (s.setReg .d (setBit 2 (s.reg .d))).finish 8

/-- SET 2,E (R624). -/
def exec_set_2_e (s : State) : Result := (s.setReg .e (setBit 2 (s.reg .e))).finish 8

/-- SET 2,H (R624). -/
def exec_set_2_h (s : State) : Result := (s.setReg .h (setBit 2 (s.reg .h))).finish 8

/-- SET 2,L (R624). -/
def exec_set_2_l (s : State) : Result := (s.setReg .l (setBit 2 (s.reg .l))).finish 8

/-- SET 2,(HL) (R625). -/
def exec_set_2_mhl (s : State) : Result := (s.writeHl (setBit 2 s.readHl)).finish 16

/-- SET 2,A (R624). -/
def exec_set_2_a (s : State) : Result := (s.setReg .a (setBit 2 (s.reg .a))).finish 8

/-- SET 3,B (R624). -/
def exec_set_3_b (s : State) : Result := (s.setReg .b (setBit 3 (s.reg .b))).finish 8

/-- SET 3,C (R624). -/
def exec_set_3_c (s : State) : Result := (s.setReg .c (setBit 3 (s.reg .c))).finish 8

/-- SET 3,D (R624). -/
def exec_set_3_d (s : State) : Result := (s.setReg .d (setBit 3 (s.reg .d))).finish 8

/-- SET 3,E (R624). -/
def exec_set_3_e (s : State) : Result := (s.setReg .e (setBit 3 (s.reg .e))).finish 8

/-- SET 3,H (R624). -/
def exec_set_3_h (s : State) : Result := (s.setReg .h (setBit 3 (s.reg .h))).finish 8

/-- SET 3,L (R624). -/
def exec_set_3_l (s : State) : Result := (s.setReg .l (setBit 3 (s.reg .l))).finish 8

/-- SET 3,(HL) (R625). -/
def exec_set_3_mhl (s : State) : Result := (s.writeHl (setBit 3 s.readHl)).finish 16

/-- SET 3,A (R624). -/
def exec_set_3_a (s : State) : Result := (s.setReg .a (setBit 3 (s.reg .a))).finish 8

/-- SET 4,B (R624). -/
def exec_set_4_b (s : State) : Result := (s.setReg .b (setBit 4 (s.reg .b))).finish 8

/-- SET 4,C (R624). -/
def exec_set_4_c (s : State) : Result := (s.setReg .c (setBit 4 (s.reg .c))).finish 8

/-- SET 4,D (R624). -/
def exec_set_4_d (s : State) : Result := (s.setReg .d (setBit 4 (s.reg .d))).finish 8

/-- SET 4,E (R624). -/
def exec_set_4_e (s : State) : Result := (s.setReg .e (setBit 4 (s.reg .e))).finish 8

/-- SET 4,H (R624). -/
def exec_set_4_h (s : State) : Result := (s.setReg .h (setBit 4 (s.reg .h))).finish 8

/-- SET 4,L (R624). -/
def exec_set_4_l (s : State) : Result := (s.setReg .l (setBit 4 (s.reg .l))).finish 8

/-- SET 4,(HL) (R625). -/
def exec_set_4_mhl (s : State) : Result := (s.writeHl (setBit 4 s.readHl)).finish 16

/-- SET 4,A (R624). -/
def exec_set_4_a (s : State) : Result := (s.setReg .a (setBit 4 (s.reg .a))).finish 8

/-- SET 5,B (R624). -/
def exec_set_5_b (s : State) : Result := (s.setReg .b (setBit 5 (s.reg .b))).finish 8

/-- SET 5,C (R624). -/
def exec_set_5_c (s : State) : Result := (s.setReg .c (setBit 5 (s.reg .c))).finish 8

/-- SET 5,D (R624). -/
def exec_set_5_d (s : State) : Result := (s.setReg .d (setBit 5 (s.reg .d))).finish 8

/-- SET 5,E (R624). -/
def exec_set_5_e (s : State) : Result := (s.setReg .e (setBit 5 (s.reg .e))).finish 8

/-- SET 5,H (R624). -/
def exec_set_5_h (s : State) : Result := (s.setReg .h (setBit 5 (s.reg .h))).finish 8

/-- SET 5,L (R624). -/
def exec_set_5_l (s : State) : Result := (s.setReg .l (setBit 5 (s.reg .l))).finish 8

/-- SET 5,(HL) (R625). -/
def exec_set_5_mhl (s : State) : Result := (s.writeHl (setBit 5 s.readHl)).finish 16

/-- SET 5,A (R624). -/
def exec_set_5_a (s : State) : Result := (s.setReg .a (setBit 5 (s.reg .a))).finish 8

/-- SET 6,B (R624). -/
def exec_set_6_b (s : State) : Result := (s.setReg .b (setBit 6 (s.reg .b))).finish 8

/-- SET 6,C (R624). -/
def exec_set_6_c (s : State) : Result := (s.setReg .c (setBit 6 (s.reg .c))).finish 8

/-- SET 6,D (R624). -/
def exec_set_6_d (s : State) : Result := (s.setReg .d (setBit 6 (s.reg .d))).finish 8

/-- SET 6,E (R624). -/
def exec_set_6_e (s : State) : Result := (s.setReg .e (setBit 6 (s.reg .e))).finish 8

/-- SET 6,H (R624). -/
def exec_set_6_h (s : State) : Result := (s.setReg .h (setBit 6 (s.reg .h))).finish 8

/-- SET 6,L (R624). -/
def exec_set_6_l (s : State) : Result := (s.setReg .l (setBit 6 (s.reg .l))).finish 8

/-- SET 6,(HL) (R625). -/
def exec_set_6_mhl (s : State) : Result := (s.writeHl (setBit 6 s.readHl)).finish 16

/-- SET 6,A (R624). -/
def exec_set_6_a (s : State) : Result := (s.setReg .a (setBit 6 (s.reg .a))).finish 8

/-- SET 7,B (R624). -/
def exec_set_7_b (s : State) : Result := (s.setReg .b (setBit 7 (s.reg .b))).finish 8

/-- SET 7,C (R624). -/
def exec_set_7_c (s : State) : Result := (s.setReg .c (setBit 7 (s.reg .c))).finish 8

/-- SET 7,D (R624). -/
def exec_set_7_d (s : State) : Result := (s.setReg .d (setBit 7 (s.reg .d))).finish 8

/-- SET 7,E (R624). -/
def exec_set_7_e (s : State) : Result := (s.setReg .e (setBit 7 (s.reg .e))).finish 8

/-- SET 7,H (R624). -/
def exec_set_7_h (s : State) : Result := (s.setReg .h (setBit 7 (s.reg .h))).finish 8

/-- SET 7,L (R624). -/
def exec_set_7_l (s : State) : Result := (s.setReg .l (setBit 7 (s.reg .l))).finish 8

/-- SET 7,(HL) (R625). -/
def exec_set_7_mhl (s : State) : Result := (s.writeHl (setBit 7 s.readHl)).finish 16

/-- SET 7,A (R624). -/
def exec_set_7_a (s : State) : Result := (s.setReg .a (setBit 7 (s.reg .a))).finish 8

end Sys2Proof.Machine
end

