-- ==== Sys2Proof/Machine/Control.lean ====
section
/-! DEFINITION. Control transfer (45_control, R650 to R668): one meaning for each instruction, the pc already past its bytes (R105). -/

namespace Sys2Proof.Machine

/-- JR e (R653). -/
def exec_jr_e (e : Byte) (s : State) : Result := (s.jumpRelative e).finish 12

/-- JR NZ,e (R654). -/
def exec_jr_nz_e (e : Byte) (s : State) : Result := s.branch (s.cond .nz) (s.jumpRelative e) 12 8

/-- JR Z,e (R654). -/
def exec_jr_z_e (e : Byte) (s : State) : Result := s.branch (s.cond .z) (s.jumpRelative e) 12 8

/-- JR NC,e (R654). -/
def exec_jr_nc_e (e : Byte) (s : State) : Result := s.branch (s.cond .nc) (s.jumpRelative e) 12 8

/-- JR C,e (R654). -/
def exec_jr_c_e (e : Byte) (s : State) : Result := s.branch (s.cond .c) (s.jumpRelative e) 12 8

/-- RET NZ (R666). -/
def exec_ret_nz (s : State) : Result := s.branch (s.cond .nz) s.ret 20 8

/-- JP NZ,nn (R651). -/
def exec_jp_nz_nn (nn : Word) (s : State) : Result := s.branch (s.cond .nz) (s.jump nn) 16 12

/-- JP nn (R650). -/
def exec_jp_nn (nn : Word) (s : State) : Result := (s.jump nn).finish 16

/-- CALL NZ,nn (R661). -/
def exec_call_nz_nn (nn : Word) (s : State) : Result := s.branch (s.cond .nz) (s.call nn) 24 12

/-- RST 0x00 (R668). -/
def exec_rst_00 (s : State) : Result := (s.call 0x00#16).finish 16

/-- RET Z (R666). -/
def exec_ret_z (s : State) : Result := s.branch (s.cond .z) s.ret 20 8

/-- RET (R665). -/
def exec_ret (s : State) : Result := s.ret.finish 16

/-- JP Z,nn (R651). -/
def exec_jp_z_nn (nn : Word) (s : State) : Result := s.branch (s.cond .z) (s.jump nn) 16 12

/-- CALL Z,nn (R661). -/
def exec_call_z_nn (nn : Word) (s : State) : Result := s.branch (s.cond .z) (s.call nn) 24 12

/-- CALL nn (R660). -/
def exec_call_nn (nn : Word) (s : State) : Result := (s.call nn).finish 24

/-- RST 0x08 (R668). -/
def exec_rst_08 (s : State) : Result := (s.call 0x08#16).finish 16

/-- RET NC (R666). -/
def exec_ret_nc (s : State) : Result := s.branch (s.cond .nc) s.ret 20 8

/-- JP NC,nn (R651). -/
def exec_jp_nc_nn (nn : Word) (s : State) : Result := s.branch (s.cond .nc) (s.jump nn) 16 12

/-- CALL NC,nn (R661). -/
def exec_call_nc_nn (nn : Word) (s : State) : Result := s.branch (s.cond .nc) (s.call nn) 24 12

/-- RST 0x10 (R668). -/
def exec_rst_10 (s : State) : Result := (s.call 0x10#16).finish 16

/-- RET C (R666). -/
def exec_ret_c (s : State) : Result := s.branch (s.cond .c) s.ret 20 8

/-- RETI (R667). -/
def exec_reti (s : State) : Result := s.returnFromInterrupt.finish 16

/-- JP C,nn (R651). -/
def exec_jp_c_nn (nn : Word) (s : State) : Result := s.branch (s.cond .c) (s.jump nn) 16 12

/-- CALL C,nn (R661). -/
def exec_call_c_nn (nn : Word) (s : State) : Result := s.branch (s.cond .c) (s.call nn) 24 12

/-- RST 0x18 (R668). -/
def exec_rst_18 (s : State) : Result := (s.call 0x18#16).finish 16

/-- RST 0x20 (R668). -/
def exec_rst_20 (s : State) : Result := (s.call 0x20#16).finish 16

/-- JP HL (R652). -/
def exec_jp_hl (s : State) : Result := (s.jump s.hl).finish 4

/-- RST 0x28 (R668). -/
def exec_rst_28 (s : State) : Result := (s.call 0x28#16).finish 16

/-- RST 0x30 (R668). -/
def exec_rst_30 (s : State) : Result := (s.call 0x30#16).finish 16

/-- RST 0x38 (R668). -/
def exec_rst_38 (s : State) : Result := (s.call 0x38#16).finish 16

end Sys2Proof.Machine
end

