-- ==== Sys2Proof/Machine/Loads16.lean ====
section
/-! DEFINITION. 16-bit loads and the stack (41_loads16, R440 to R454): one meaning for each instruction, the pc already past its bytes (R105). -/

namespace Sys2Proof.Machine

/-- LD BC,nn (R440). -/
def exec_ld_bc_nn (nn : Word) (s : State) : Result := (s.setReg16 .bc nn).finish 12

/-- LD (nn),SP (R441). -/
def exec_ld_mnn_sp (nn : Word) (s : State) : Result := (s.storeWord nn s.sp).finish 20

/-- LD DE,nn (R440). -/
def exec_ld_de_nn (nn : Word) (s : State) : Result := (s.setReg16 .de nn).finish 12

/-- LD HL,nn (R440). -/
def exec_ld_hl_nn (nn : Word) (s : State) : Result := (s.setReg16 .hl nn).finish 12

/-- LD SP,nn (R440). -/
def exec_ld_sp_nn (nn : Word) (s : State) : Result := (s.setReg16 .sp nn).finish 12

/-- POP BC (R454). -/
def exec_pop_bc (s : State) : Result := (s.popped.setReg16 .bc s.top16).finish 12

/-- PUSH BC (R452). -/
def exec_push_bc (s : State) : Result := (s.push16 (s.reg16 .bc)).finish 16

/-- POP DE (R454). -/
def exec_pop_de (s : State) : Result := (s.popped.setReg16 .de s.top16).finish 12

/-- PUSH DE (R452). -/
def exec_push_de (s : State) : Result := (s.push16 (s.reg16 .de)).finish 16

/-- POP HL (R454). -/
def exec_pop_hl (s : State) : Result := (s.popped.setReg16 .hl s.top16).finish 12

/-- PUSH HL (R452). -/
def exec_push_hl (s : State) : Result := (s.push16 (s.reg16 .hl)).finish 16

/-- POP AF (R453). -/
def exec_pop_af (s : State) : Result := (s.popped.setReg16 .af s.top16).finish 12

/-- PUSH AF (R452). -/
def exec_push_af (s : State) : Result := (s.push16 (s.reg16 .af)).finish 16

/-- LD HL,SP+e (R445). -/
def exec_ld_hl_sp_e (e : Byte) (s : State) : Result := ((s.setReg16 .hl (s.sp + sext16 e)).setSpFlags s.sp e).finish 12

/-- LD SP,HL (R442). -/
def exec_ld_sp_hl (s : State) : Result := (s.setReg16 .sp s.hl).finish 8

end Sys2Proof.Machine
end

