-- ==== Sys2Proof/Machine/Loads8.lean ====
section
/-! DEFINITION. 8-bit loads (40_loads8, R400 to R418): one meaning for each instruction, the pc already past its bytes (R105). -/

namespace Sys2Proof.Machine

/-- LD (BC),A (R407). -/
def exec_ld_mbc_a (s : State) : Result := (s.write (s.reg16 .bc) s.a).finish 8

/-- LD B,n (R401). -/
def exec_ld_b_n (n : Byte) (s : State) : Result := (s.setReg .b n).finish 8

/-- LD A,(BC) (R405). -/
def exec_ld_a_mbc (s : State) : Result := (s.setReg .a (s.read (s.reg16 .bc))).finish 8

/-- LD C,n (R401). -/
def exec_ld_c_n (n : Byte) (s : State) : Result := (s.setReg .c n).finish 8

/-- LD (DE),A (R408). -/
def exec_ld_mde_a (s : State) : Result := (s.write (s.reg16 .de) s.a).finish 8

/-- LD D,n (R401). -/
def exec_ld_d_n (n : Byte) (s : State) : Result := (s.setReg .d n).finish 8

/-- LD A,(DE) (R406). -/
def exec_ld_a_mde (s : State) : Result := (s.setReg .a (s.read (s.reg16 .de))).finish 8

/-- LD E,n (R401). -/
def exec_ld_e_n (n : Byte) (s : State) : Result := (s.setReg .e n).finish 8

/-- LD (HL+),A (R417). -/
def exec_ld_mhli_a (s : State) : Result := ((s.writeHl s.a).incHl).finish 8

/-- LD H,n (R401). -/
def exec_ld_h_n (n : Byte) (s : State) : Result := (s.setReg .h n).finish 8

/-- LD A,(HL+) (R415). -/
def exec_ld_a_mhli (s : State) : Result := ((s.setReg .a s.readHl).incHl).finish 8

/-- LD L,n (R401). -/
def exec_ld_l_n (n : Byte) (s : State) : Result := (s.setReg .l n).finish 8

/-- LD (HL-),A (R418). -/
def exec_ld_mhld_a (s : State) : Result := ((s.writeHl s.a).decHl).finish 8

/-- LD (HL),n (R404). -/
def exec_ld_mhl_n (n : Byte) (s : State) : Result := (s.writeHl n).finish 12

/-- LD A,(HL-) (R416). -/
def exec_ld_a_mhld (s : State) : Result := ((s.setReg .a s.readHl).decHl).finish 8

/-- LD A,n (R401). -/
def exec_ld_a_n (n : Byte) (s : State) : Result := (s.setReg .a n).finish 8

/-- LD B,B (R400). -/
def exec_ld_b_b (s : State) : Result := (s.setReg .b (s.reg .b)).finish 4

/-- LD B,C (R400). -/
def exec_ld_b_c (s : State) : Result := (s.setReg .b (s.reg .c)).finish 4

/-- LD B,D (R400). -/
def exec_ld_b_d (s : State) : Result := (s.setReg .b (s.reg .d)).finish 4

/-- LD B,E (R400). -/
def exec_ld_b_e (s : State) : Result := (s.setReg .b (s.reg .e)).finish 4

/-- LD B,H (R400). -/
def exec_ld_b_h (s : State) : Result := (s.setReg .b (s.reg .h)).finish 4

/-- LD B,L (R400). -/
def exec_ld_b_l (s : State) : Result := (s.setReg .b (s.reg .l)).finish 4

/-- LD B,(HL) (R402). -/
def exec_ld_b_mhl (s : State) : Result := (s.setReg .b s.readHl).finish 8

/-- LD B,A (R400). -/
def exec_ld_b_a (s : State) : Result := (s.setReg .b (s.reg .a)).finish 4

/-- LD C,B (R400). -/
def exec_ld_c_b (s : State) : Result := (s.setReg .c (s.reg .b)).finish 4

/-- LD C,C (R400). -/
def exec_ld_c_c (s : State) : Result := (s.setReg .c (s.reg .c)).finish 4

/-- LD C,D (R400). -/
def exec_ld_c_d (s : State) : Result := (s.setReg .c (s.reg .d)).finish 4

/-- LD C,E (R400). -/
def exec_ld_c_e (s : State) : Result := (s.setReg .c (s.reg .e)).finish 4

/-- LD C,H (R400). -/
def exec_ld_c_h (s : State) : Result := (s.setReg .c (s.reg .h)).finish 4

/-- LD C,L (R400). -/
def exec_ld_c_l (s : State) : Result := (s.setReg .c (s.reg .l)).finish 4

/-- LD C,(HL) (R402). -/
def exec_ld_c_mhl (s : State) : Result := (s.setReg .c s.readHl).finish 8

/-- LD C,A (R400). -/
def exec_ld_c_a (s : State) : Result := (s.setReg .c (s.reg .a)).finish 4

/-- LD D,B (R400). -/
def exec_ld_d_b (s : State) : Result := (s.setReg .d (s.reg .b)).finish 4

/-- LD D,C (R400). -/
def exec_ld_d_c (s : State) : Result := (s.setReg .d (s.reg .c)).finish 4

/-- LD D,D (R400). -/
def exec_ld_d_d (s : State) : Result := (s.setReg .d (s.reg .d)).finish 4

/-- LD D,E (R400). -/
def exec_ld_d_e (s : State) : Result := (s.setReg .d (s.reg .e)).finish 4

/-- LD D,H (R400). -/
def exec_ld_d_h (s : State) : Result := (s.setReg .d (s.reg .h)).finish 4

/-- LD D,L (R400). -/
def exec_ld_d_l (s : State) : Result := (s.setReg .d (s.reg .l)).finish 4

/-- LD D,(HL) (R402). -/
def exec_ld_d_mhl (s : State) : Result := (s.setReg .d s.readHl).finish 8

/-- LD D,A (R400). -/
def exec_ld_d_a (s : State) : Result := (s.setReg .d (s.reg .a)).finish 4

/-- LD E,B (R400). -/
def exec_ld_e_b (s : State) : Result := (s.setReg .e (s.reg .b)).finish 4

/-- LD E,C (R400). -/
def exec_ld_e_c (s : State) : Result := (s.setReg .e (s.reg .c)).finish 4

/-- LD E,D (R400). -/
def exec_ld_e_d (s : State) : Result := (s.setReg .e (s.reg .d)).finish 4

/-- LD E,E (R400). -/
def exec_ld_e_e (s : State) : Result := (s.setReg .e (s.reg .e)).finish 4

/-- LD E,H (R400). -/
def exec_ld_e_h (s : State) : Result := (s.setReg .e (s.reg .h)).finish 4

/-- LD E,L (R400). -/
def exec_ld_e_l (s : State) : Result := (s.setReg .e (s.reg .l)).finish 4

/-- LD E,(HL) (R402). -/
def exec_ld_e_mhl (s : State) : Result := (s.setReg .e s.readHl).finish 8

/-- LD E,A (R400). -/
def exec_ld_e_a (s : State) : Result := (s.setReg .e (s.reg .a)).finish 4

/-- LD H,B (R400). -/
def exec_ld_h_b (s : State) : Result := (s.setReg .h (s.reg .b)).finish 4

/-- LD H,C (R400). -/
def exec_ld_h_c (s : State) : Result := (s.setReg .h (s.reg .c)).finish 4

/-- LD H,D (R400). -/
def exec_ld_h_d (s : State) : Result := (s.setReg .h (s.reg .d)).finish 4

/-- LD H,E (R400). -/
def exec_ld_h_e (s : State) : Result := (s.setReg .h (s.reg .e)).finish 4

/-- LD H,H (R400). -/
def exec_ld_h_h (s : State) : Result := (s.setReg .h (s.reg .h)).finish 4

/-- LD H,L (R400). -/
def exec_ld_h_l (s : State) : Result := (s.setReg .h (s.reg .l)).finish 4

/-- LD H,(HL) (R402). -/
def exec_ld_h_mhl (s : State) : Result := (s.setReg .h s.readHl).finish 8

/-- LD H,A (R400). -/
def exec_ld_h_a (s : State) : Result := (s.setReg .h (s.reg .a)).finish 4

/-- LD L,B (R400). -/
def exec_ld_l_b (s : State) : Result := (s.setReg .l (s.reg .b)).finish 4

/-- LD L,C (R400). -/
def exec_ld_l_c (s : State) : Result := (s.setReg .l (s.reg .c)).finish 4

/-- LD L,D (R400). -/
def exec_ld_l_d (s : State) : Result := (s.setReg .l (s.reg .d)).finish 4

/-- LD L,E (R400). -/
def exec_ld_l_e (s : State) : Result := (s.setReg .l (s.reg .e)).finish 4

/-- LD L,H (R400). -/
def exec_ld_l_h (s : State) : Result := (s.setReg .l (s.reg .h)).finish 4

/-- LD L,L (R400). -/
def exec_ld_l_l (s : State) : Result := (s.setReg .l (s.reg .l)).finish 4

/-- LD L,(HL) (R402). -/
def exec_ld_l_mhl (s : State) : Result := (s.setReg .l s.readHl).finish 8

/-- LD L,A (R400). -/
def exec_ld_l_a (s : State) : Result := (s.setReg .l (s.reg .a)).finish 4

/-- LD (HL),B (R403). -/
def exec_ld_mhl_b (s : State) : Result := (s.writeHl (s.reg .b)).finish 8

/-- LD (HL),C (R403). -/
def exec_ld_mhl_c (s : State) : Result := (s.writeHl (s.reg .c)).finish 8

/-- LD (HL),D (R403). -/
def exec_ld_mhl_d (s : State) : Result := (s.writeHl (s.reg .d)).finish 8

/-- LD (HL),E (R403). -/
def exec_ld_mhl_e (s : State) : Result := (s.writeHl (s.reg .e)).finish 8

/-- LD (HL),H (R403). -/
def exec_ld_mhl_h (s : State) : Result := (s.writeHl (s.reg .h)).finish 8

/-- LD (HL),L (R403). -/
def exec_ld_mhl_l (s : State) : Result := (s.writeHl (s.reg .l)).finish 8

/-- LD (HL),A (R403). -/
def exec_ld_mhl_a (s : State) : Result := (s.writeHl (s.reg .a)).finish 8

/-- LD A,B (R400). -/
def exec_ld_a_b (s : State) : Result := (s.setReg .a (s.reg .b)).finish 4

/-- LD A,C (R400). -/
def exec_ld_a_c (s : State) : Result := (s.setReg .a (s.reg .c)).finish 4

/-- LD A,D (R400). -/
def exec_ld_a_d (s : State) : Result := (s.setReg .a (s.reg .d)).finish 4

/-- LD A,E (R400). -/
def exec_ld_a_e (s : State) : Result := (s.setReg .a (s.reg .e)).finish 4

/-- LD A,H (R400). -/
def exec_ld_a_h (s : State) : Result := (s.setReg .a (s.reg .h)).finish 4

/-- LD A,L (R400). -/
def exec_ld_a_l (s : State) : Result := (s.setReg .a (s.reg .l)).finish 4

/-- LD A,(HL) (R402). -/
def exec_ld_a_mhl (s : State) : Result := (s.setReg .a s.readHl).finish 8

/-- LD A,A (R400). -/
def exec_ld_a_a (s : State) : Result := (s.setReg .a (s.reg .a)).finish 4

/-- LDH (n),A (R412). -/
def exec_ldh_mn_a (n : Byte) (s : State) : Result := (s.write (highPage n) s.a).finish 12

/-- LD (C),A (R414). -/
def exec_ld_mc_a (s : State) : Result := (s.write (highPage s.c) s.a).finish 8

/-- LD (nn),A (R410). -/
def exec_ld_mnn_a (nn : Word) (s : State) : Result := (s.write nn s.a).finish 16

/-- LDH A,(n) (R411). -/
def exec_ldh_a_mn (n : Byte) (s : State) : Result := (s.setReg .a (s.read (highPage n))).finish 12

/-- LD A,(C) (R413). -/
def exec_ld_a_mc (s : State) : Result := (s.setReg .a (s.read (highPage s.c))).finish 8

/-- LD A,(nn) (R409). -/
def exec_ld_a_mnn (nn : Word) (s : State) : Result := (s.setReg .a (s.read nn)).finish 16

end Sys2Proof.Machine
end

