-- ==== Sys2Proof/Machine/Rotates.lean ====
section
/-! DEFINITION. Rotates and shifts (44_rotate_shift_bit, R600 to R619): one meaning for each instruction, the pc already past its bytes (R105). -/

namespace Sys2Proof.Machine

/-- RLCA (R600). -/
def exec_rlca (s : State) : Result := (s.rotateA (rlc8 s.a)).finish 4

/-- RRCA (R601). -/
def exec_rrca (s : State) : Result := (s.rotateA (rrc8 s.a)).finish 4

/-- RLA (R602). -/
def exec_rla (s : State) : Result := (s.rotateA (rl8 s.flagC s.a)).finish 4

/-- RRA (R603). -/
def exec_rra (s : State) : Result := (s.rotateA (rr8 s.flagC s.a)).finish 4

/-- RLC B (R604). -/
def exec_rlc_b (s : State) : Result := (s.shiftReg .b (rlc8 (s.reg .b))).finish 8

/-- RLC C (R604). -/
def exec_rlc_c (s : State) : Result := (s.shiftReg .c (rlc8 (s.reg .c))).finish 8

/-- RLC D (R604). -/
def exec_rlc_d (s : State) : Result := (s.shiftReg .d (rlc8 (s.reg .d))).finish 8

/-- RLC E (R604). -/
def exec_rlc_e (s : State) : Result := (s.shiftReg .e (rlc8 (s.reg .e))).finish 8

/-- RLC H (R604). -/
def exec_rlc_h (s : State) : Result := (s.shiftReg .h (rlc8 (s.reg .h))).finish 8

/-- RLC L (R604). -/
def exec_rlc_l (s : State) : Result := (s.shiftReg .l (rlc8 (s.reg .l))).finish 8

/-- RLC (HL) (R605). -/
def exec_rlc_mhl (s : State) : Result := (s.shiftHl (rlc8 s.readHl)).finish 16

/-- RLC A (R604). -/
def exec_rlc_a (s : State) : Result := (s.shiftReg .a (rlc8 (s.reg .a))).finish 8

/-- RRC B (R606). -/
def exec_rrc_b (s : State) : Result := (s.shiftReg .b (rrc8 (s.reg .b))).finish 8

/-- RRC C (R606). -/
def exec_rrc_c (s : State) : Result := (s.shiftReg .c (rrc8 (s.reg .c))).finish 8

/-- RRC D (R606). -/
def exec_rrc_d (s : State) : Result := (s.shiftReg .d (rrc8 (s.reg .d))).finish 8

/-- RRC E (R606). -/
def exec_rrc_e (s : State) : Result := (s.shiftReg .e (rrc8 (s.reg .e))).finish 8

/-- RRC H (R606). -/
def exec_rrc_h (s : State) : Result := (s.shiftReg .h (rrc8 (s.reg .h))).finish 8

/-- RRC L (R606). -/
def exec_rrc_l (s : State) : Result := (s.shiftReg .l (rrc8 (s.reg .l))).finish 8

/-- RRC (HL) (R607). -/
def exec_rrc_mhl (s : State) : Result := (s.shiftHl (rrc8 s.readHl)).finish 16

/-- RRC A (R606). -/
def exec_rrc_a (s : State) : Result := (s.shiftReg .a (rrc8 (s.reg .a))).finish 8

/-- RL B (R608). -/
def exec_rl_b (s : State) : Result := (s.shiftReg .b (rl8 s.flagC (s.reg .b))).finish 8

/-- RL C (R608). -/
def exec_rl_c (s : State) : Result := (s.shiftReg .c (rl8 s.flagC (s.reg .c))).finish 8

/-- RL D (R608). -/
def exec_rl_d (s : State) : Result := (s.shiftReg .d (rl8 s.flagC (s.reg .d))).finish 8

/-- RL E (R608). -/
def exec_rl_e (s : State) : Result := (s.shiftReg .e (rl8 s.flagC (s.reg .e))).finish 8

/-- RL H (R608). -/
def exec_rl_h (s : State) : Result := (s.shiftReg .h (rl8 s.flagC (s.reg .h))).finish 8

/-- RL L (R608). -/
def exec_rl_l (s : State) : Result := (s.shiftReg .l (rl8 s.flagC (s.reg .l))).finish 8

/-- RL (HL) (R609). -/
def exec_rl_mhl (s : State) : Result := (s.shiftHl (rl8 s.flagC s.readHl)).finish 16

/-- RL A (R608). -/
def exec_rl_a (s : State) : Result := (s.shiftReg .a (rl8 s.flagC (s.reg .a))).finish 8

/-- RR B (R610). -/
def exec_rr_b (s : State) : Result := (s.shiftReg .b (rr8 s.flagC (s.reg .b))).finish 8

/-- RR C (R610). -/
def exec_rr_c (s : State) : Result := (s.shiftReg .c (rr8 s.flagC (s.reg .c))).finish 8

/-- RR D (R610). -/
def exec_rr_d (s : State) : Result := (s.shiftReg .d (rr8 s.flagC (s.reg .d))).finish 8

/-- RR E (R610). -/
def exec_rr_e (s : State) : Result := (s.shiftReg .e (rr8 s.flagC (s.reg .e))).finish 8

/-- RR H (R610). -/
def exec_rr_h (s : State) : Result := (s.shiftReg .h (rr8 s.flagC (s.reg .h))).finish 8

/-- RR L (R610). -/
def exec_rr_l (s : State) : Result := (s.shiftReg .l (rr8 s.flagC (s.reg .l))).finish 8

/-- RR (HL) (R611). -/
def exec_rr_mhl (s : State) : Result := (s.shiftHl (rr8 s.flagC s.readHl)).finish 16

/-- RR A (R610). -/
def exec_rr_a (s : State) : Result := (s.shiftReg .a (rr8 s.flagC (s.reg .a))).finish 8

/-- SLA B (R612). -/
def exec_sla_b (s : State) : Result := (s.shiftReg .b (sla8 (s.reg .b))).finish 8

/-- SLA C (R612). -/
def exec_sla_c (s : State) : Result := (s.shiftReg .c (sla8 (s.reg .c))).finish 8

/-- SLA D (R612). -/
def exec_sla_d (s : State) : Result := (s.shiftReg .d (sla8 (s.reg .d))).finish 8

/-- SLA E (R612). -/
def exec_sla_e (s : State) : Result := (s.shiftReg .e (sla8 (s.reg .e))).finish 8

/-- SLA H (R612). -/
def exec_sla_h (s : State) : Result := (s.shiftReg .h (sla8 (s.reg .h))).finish 8

/-- SLA L (R612). -/
def exec_sla_l (s : State) : Result := (s.shiftReg .l (sla8 (s.reg .l))).finish 8

/-- SLA (HL) (R613). -/
def exec_sla_mhl (s : State) : Result := (s.shiftHl (sla8 s.readHl)).finish 16

/-- SLA A (R612). -/
def exec_sla_a (s : State) : Result := (s.shiftReg .a (sla8 (s.reg .a))).finish 8

/-- SRA B (R614). -/
def exec_sra_b (s : State) : Result := (s.shiftReg .b (sra8 (s.reg .b))).finish 8

/-- SRA C (R614). -/
def exec_sra_c (s : State) : Result := (s.shiftReg .c (sra8 (s.reg .c))).finish 8

/-- SRA D (R614). -/
def exec_sra_d (s : State) : Result := (s.shiftReg .d (sra8 (s.reg .d))).finish 8

/-- SRA E (R614). -/
def exec_sra_e (s : State) : Result := (s.shiftReg .e (sra8 (s.reg .e))).finish 8

/-- SRA H (R614). -/
def exec_sra_h (s : State) : Result := (s.shiftReg .h (sra8 (s.reg .h))).finish 8

/-- SRA L (R614). -/
def exec_sra_l (s : State) : Result := (s.shiftReg .l (sra8 (s.reg .l))).finish 8

/-- SRA (HL) (R615). -/
def exec_sra_mhl (s : State) : Result := (s.shiftHl (sra8 s.readHl)).finish 16

/-- SRA A (R614). -/
def exec_sra_a (s : State) : Result := (s.shiftReg .a (sra8 (s.reg .a))).finish 8

/-- SWAP B (R616). -/
def exec_swap_b (s : State) : Result := (s.shiftReg .b (swap8 (s.reg .b))).finish 8

/-- SWAP C (R616). -/
def exec_swap_c (s : State) : Result := (s.shiftReg .c (swap8 (s.reg .c))).finish 8

/-- SWAP D (R616). -/
def exec_swap_d (s : State) : Result := (s.shiftReg .d (swap8 (s.reg .d))).finish 8

/-- SWAP E (R616). -/
def exec_swap_e (s : State) : Result := (s.shiftReg .e (swap8 (s.reg .e))).finish 8

/-- SWAP H (R616). -/
def exec_swap_h (s : State) : Result := (s.shiftReg .h (swap8 (s.reg .h))).finish 8

/-- SWAP L (R616). -/
def exec_swap_l (s : State) : Result := (s.shiftReg .l (swap8 (s.reg .l))).finish 8

/-- SWAP (HL) (R617). -/
def exec_swap_mhl (s : State) : Result := (s.shiftHl (swap8 s.readHl)).finish 16

/-- SWAP A (R616). -/
def exec_swap_a (s : State) : Result := (s.shiftReg .a (swap8 (s.reg .a))).finish 8

/-- SRL B (R618). -/
def exec_srl_b (s : State) : Result := (s.shiftReg .b (srl8 (s.reg .b))).finish 8

/-- SRL C (R618). -/
def exec_srl_c (s : State) : Result := (s.shiftReg .c (srl8 (s.reg .c))).finish 8

/-- SRL D (R618). -/
def exec_srl_d (s : State) : Result := (s.shiftReg .d (srl8 (s.reg .d))).finish 8

/-- SRL E (R618). -/
def exec_srl_e (s : State) : Result := (s.shiftReg .e (srl8 (s.reg .e))).finish 8

/-- SRL H (R618). -/
def exec_srl_h (s : State) : Result := (s.shiftReg .h (srl8 (s.reg .h))).finish 8

/-- SRL L (R618). -/
def exec_srl_l (s : State) : Result := (s.shiftReg .l (srl8 (s.reg .l))).finish 8

/-- SRL (HL) (R619). -/
def exec_srl_mhl (s : State) : Result := (s.shiftHl (srl8 s.readHl)).finish 16

/-- SRL A (R618). -/
def exec_srl_a (s : State) : Result := (s.shiftReg .a (srl8 (s.reg .a))).finish 8

end Sys2Proof.Machine
end

