-- ==== Sys2Proof/Machine/System.lean ====
section
/-! DEFINITION. System and control instructions (46_system, R700 to R707): one meaning for each instruction, the pc already past its bytes (R105). -/

namespace Sys2Proof.Machine

/-- HALT (R703): with IME = 0 and an interrupt pending the CPU does not halt, and the halt bug is armed when
`HALT_BUG` is true (R704); otherwise it halts. -/
def State.halt (s : State) : State :=
  if !s.ime && s.pending ≠ 0 then { s with haltBug := s.haltBug || Config.haltBug } else { s with halted := true }

/-- STOP (R705): the operand byte is fetched and ignored. -/
def State.stop (s : State) : State := { s with stopped := true }

/-- DI (R706). -/
def State.disableInterrupts (s : State) : State := { s with ime := false, eiPending := false }

/-- EI (R707) under either value of `EI_DELAY`. -/
def State.enableInterrupts (s : State) (delay : Nat) : State :=
  if delay = 1 then { s with eiPending := true } else { s with ime := true }

/-- NOP (R700). -/
def exec_nop (s : State) : Result := s.finish 4

/-- STOP (R705). -/
def exec_stop (_x : Byte) (s : State) : Result := s.stop.finish 4

/-- HALT (R703). -/
def exec_halt (s : State) : Result := s.halt.finish 4

/-- UNDEFINED 0xD3 (R701). -/
def exec_undefined_d3 (s : State) : Result := s.finish 4

/-- UNDEFINED 0xDB (R701). -/
def exec_undefined_db (s : State) : Result := s.finish 4

/-- UNDEFINED 0xDD (R701). -/
def exec_undefined_dd (s : State) : Result := s.finish 4

/-- UNDEFINED 0xE3 (R701). -/
def exec_undefined_e3 (s : State) : Result := s.finish 4

/-- UNDEFINED 0xE4 (R701). -/
def exec_undefined_e4 (s : State) : Result := s.finish 4

/-- UNDEFINED 0xEB (R701). -/
def exec_undefined_eb (s : State) : Result := s.finish 4

/-- UNDEFINED 0xEC (R701). -/
def exec_undefined_ec (s : State) : Result := s.finish 4

/-- UNDEFINED 0xED (R701). -/
def exec_undefined_ed (s : State) : Result := s.finish 4

/-- DI (R706). -/
def exec_di (s : State) : Result := s.disableInterrupts.finish 4

/-- UNDEFINED 0xF4 (R701). -/
def exec_undefined_f4 (s : State) : Result := s.finish 4

/-- EI (R707). -/
def exec_ei (s : State) : Result := (s.enableInterrupts Config.eiDelay).finish 4

/-- UNDEFINED 0xFC (R701). -/
def exec_undefined_fc (s : State) : Result := s.finish 4

/-- UNDEFINED 0xFD (R701). -/
def exec_undefined_fd (s : State) : Result := s.finish 4

end Sys2Proof.Machine
end

