-- ==== Sys2Proof/Machine/Cpu.lean ====
section
/-! DEFINITION. Fetching an instruction (30_encoding R301) and the CPU step (60_exceptions R800). -/

namespace Sys2Proof.Machine

/-- `FetchByte()` for an operand or a secondary opcode: PC advances (R301). Each fetch counts a draw, so that a
byte fetched from a clock register is related to no other read (log entry 4). -/
def State.fetchByte (s : State) : Byte × State :=
  (s.read s.pc, { s with pc := s.pc + 1, draws := s.draws + 1 })

/-- `FetchByte()` for the opcode: after a halt bug PC stays and the bug is consumed (R301, R704). Its draw is one
beyond that of the previous instruction's data reads (log entry 4). -/
def State.fetchOpcode (s : State) : Byte × State :=
  (s.readAt (s.draws + 1) s.pc,
    if s.haltBug then { s with haltBug := false, draws := s.draws + 2 }
    else { s with pc := s.pc + 1, draws := s.draws + 2 })

/-- The `n` bytes after the opcode, in address order (R301, R302). -/
def State.fetchBytes : Nat → State → List Byte × State
  | 0, s => ([], s)
  | n + 1, s =>
    let r := s.fetchByte
    let rest := State.fetchBytes n r.2
    (r.1 :: rest.1, rest.2)

/-- A whole instruction: the opcode, then as many bytes as it says (R300, R303), all before the instruction's
operation runs; the state has the pc past them. -/
def State.fetchInstr (s : State) : Instr × State :=
  let op := s.fetchOpcode
  let rest := State.fetchBytes (opcodeLength op.1 - 1) op.2
  (decode3 op.1 (rest.1.getD 0 0) (rest.1.getD 1 0), rest.2)

/-- R707, R800: the EI delay, applied after the instruction that follows EI. `pend` is `ei_pending` before the
fetch. -/
def State.applyEiDelay (s : State) (pend : Bool) : State :=
  if pend && s.eiPending then { s with ime := true, eiPending := false } else s

/-- What follows an outcome that is a next state. -/
def thenState (r : Result) (k : State → State) : Result :=
  match r with
  | .next s => .next (k s)
  | .fault x => .fault x
  | .refused x => .refused x

/-- One whole instruction: fetch, decode, run, EI delay (R800 (d)). -/
def State.runInstr (s : State) : Result :=
  thenState (exec s.fetchInstr.1 s.fetchInstr.2) fun t => t.applyEiDelay s.eiPending

/-- The CPU step (R800): nothing while stopped; one dispatch; one idle slot while halted; one instruction. Its
count is in `cycles`. -/
def State.cpuStep (s : State) : Result :=
  if s.stopped then s.finish 4
  else
    match (if s.ime then lowestBit s.pending else none) with
    | some i => .next (s.dispatch i)
    | none =>
      if s.halted then
        if s.pending = 0 then s.finish 4 else { s with halted := false }.runInstr
      else s.runInstr

end Sys2Proof.Machine
end

