-- ==== Sys2Proof/Machine/Ppu.lean ====
section
/-! DEFINITION. The PPU (61_ppu): the pixel compositor of one line, and the scan-line state machine. -/

namespace Sys2Proof.Machine

/-! ## The registers it reads (R124 to R130) -/

/-- LCDC. -/
def State.lcdc (s : State) : Byte := s.io 0x40

/-- `vram[off]` (R850: read directly, never gated). -/
def State.vram (s : State) (off : Nat) : Byte := s.mem.read (0x8000 + off)

/-- `oam[off]`. -/
def State.oam (s : State) (off : Nat) : Byte := s.mem.read (0xFE00 + off)

/-! ## Background and window (R871, R872) -/

/-- The two-bit colour index whose low bit is bit `7 - x` of `lo` and whose high bit that of `hi`. -/
def pixelOf (lo hi : Byte) (x : Nat) : BitVec 2 :=
  (if hi.getLsbD (7 - x) then 2#2 else 0#2) ||| (if lo.getLsbD (7 - x) then 1#2 else 0#2)

/-- The offset in video memory of tile `t` for background and window: unsigned from 0x8000 when LCDC bit 4 is
set, signed from 0x9000 otherwise (R871). -/
def tileBase (lcdc t : Byte) : Nat :=
  if lcdc.getLsbD 4 then 16 * t.toNat else (0x1000 + 16 * t.toInt).toNat

/-- `tile_pixel(t, cx, cy)` (R871). -/
def State.tilePixel (s : State) (t : Byte) (cx cy : Nat) : BitVec 2 :=
  let base := tileBase s.lcdc t + 2 * cy
  pixelOf (s.vram base) (s.vram (base + 1)) cx

/-- A pixel of one of the two 32 x 32 tile maps, 0x9800 or 0x9C00 (R871, R872). -/
def State.mapPixel (s : State) (high : Bool) (px py : Nat) : BitVec 2 :=
  let t := s.vram ((if high then 0x1C00 else 0x1800) + py / 8 * 32 + px / 8)
  s.tilePixel t (px % 8) (py % 8)

/-- Whether the window covers pixel x of line ly (R872). -/
def State.windowCovers (s : State) (ly x : Nat) : Bool :=
  s.lcdc.getLsbD 0 && s.lcdc.getLsbD 5 && (s.io 0x4A).toNat ≤ ly && (s.io 0x4B).toNat ≤ x + 7

/-- The background or window colour index `bgc` at pixel x of line ly (R871, R872). -/
def State.bgIndex (s : State) (ly x : Nat) : BitVec 2 :=
  if s.windowCovers ly x then
    s.mapPixel (s.lcdc.getLsbD 6) (x + 7 - (s.io 0x4B).toNat) s.winLine
  else if s.lcdc.getLsbD 0 then
    s.mapPixel (s.lcdc.getLsbD 3) ((x + (s.io 0x43).toNat) % 256) ((ly + (s.io 0x42).toNat) % 256)
  else 0#2

/-! ## Sprites (R873 to R875) -/

/-- An OAM entry (R873). -/
structure Sprite where
  y    : Byte
  x    : Byte
  tile : Byte
  attr : Byte
  deriving DecidableEq, Repr

/-- Entry `k` of OAM. -/
def State.sprite (s : State) (k : Nat) : Sprite :=
  { y := s.oam (4 * k), x := s.oam (4 * k + 1), tile := s.oam (4 * k + 2), attr := s.oam (4 * k + 3) }

/-- The sprite height h (R874). -/
def State.spriteHeight (s : State) : Nat := if s.lcdc.getLsbD 2 then 16 else 8

/-- The sprites of line ly: the first ten in OAM order whose rows cover it (R874). -/
def State.spritesOn (s : State) (ly : Nat) : List Sprite :=
  if s.lcdc.getLsbD 1 then
    (((List.range 40).map s.sprite).filter fun q =>
      q.y.toNat ≤ ly + 16 && ly + 16 < q.y.toNat + s.spriteHeight).take 10
  else []

/-- A sprite's colour index at pixel x of line ly; 0, which is transparent, where it does not cover x (R875). -/
def State.spriteIndex (s : State) (q : Sprite) (ly x : Nat) : BitVec 2 :=
  if q.x.toNat ≤ x + 8 ∧ x + 8 < q.x.toNat + 8 then
    let row := ly + 16 - q.y.toNat
    let row := if q.attr.getLsbD 6 then s.spriteHeight - 1 - row else row
    let col := x + 8 - q.x.toNat
    let col := if q.attr.getLsbD 5 then 7 - col else col
    let t := if s.lcdc.getLsbD 2 then q.tile &&& 0xFE#8 else q.tile
    let base := 16 * t.toNat + 2 * row
    pixelOf (s.vram base) (s.vram (base + 1)) col
  else 0#2

/-! ## Compositing (R876, R877) -/

/-- `(P >> (2 * c)) & 3` (R129, R877). -/
def shadeOf (palette : Byte) (c : BitVec 2) : BitVec 2 := (palette >>> (2 * c.toNat)).extractLsb' 0 2

/-- The shade of pixel x of line ly: the first of the line's sprites with a non-zero pixel there wins, and is
shown unless its priority bit puts it behind a non-zero background (R875, R876). -/
def State.pixelShade (s : State) (sprites : List Sprite) (ly x : Nat) : BitVec 2 :=
  let bgc := s.bgIndex ly x
  match sprites.find? (fun q => s.spriteIndex q ly x != 0#2) with
  | none => shadeOf (s.io 0x47) bgc
  | some q =>
    if !q.attr.getLsbD 7 || bgc = 0#2 then
      shadeOf (if q.attr.getLsbD 4 then s.io 0x49 else s.io 0x48) (s.spriteIndex q ly x)
    else shadeOf (s.io 0x47) bgc

/-- The 160 shades of line ly (R870). -/
def State.lineShades (s : State) (ly : Nat) : List (BitVec 2) :=
  (List.range 160).map (s.pixelShade (s.spritesOn ly) ly)

/-- A line of the frame buffer replaced or put in its place. -/
def Frame.put : Frame → Nat → List (BitVec 2) → Frame
  | [], y, px => [(y, px)]
  | (k, q) :: fr, y, px =>
    if y < k then (y, px) :: (k, q) :: fr
    else if y = k then (y, px) :: fr
    else (k, q) :: Frame.put fr y px

/-- `render(ly)` (R870): the line's pixels, and the window's line counter when the window showed on it. -/
def State.render (s : State) (ly : Nat) : State :=
  if ly > 143 then s
  else
    { s with
      frame := s.frame.put ly (s.lineShades ly)
      winLine := if (List.range 160).any (s.windowCovers ly) then s.winLine + 1 else s.winLine }

/-! ## The state machine (R852 to R859) -/

/-- The mode numbers of STAT bits 1:0 (R853). -/
def PpuMode.number : PpuMode → Byte
  | .hblank => 0
  | .vblank => 1
  | .oamSearch => 2
  | .drawing => 3

/-- A request of interrupt bits in IF. -/
def State.request (s : State) (bits : Byte) : State := s.setIo 0x0F (s.io 0x0F ||| bits)

/-- A request of the STAT interrupt, if STAT's select bit `b` is set. -/
def State.requestStat (s : State) (b : Nat) : State := if (s.io 0x41).getLsbD b then s.request 0x02#8 else s

/-- `set_line(l)` (R857). -/
def State.setLine (s : State) (n : Nat) : State :=
  let ly : Byte := BitVec.ofNat 8 n
  let s1 := { s with line := n }.setIo 0x44 ly
  let same := ly = s1.io 0x45
  let s2 := s1.setIo 0x41 ((s1.io 0x41 &&& 0xFB#8) ||| (if same then 0x04#8 else 0#8))
  if same then s2.requestStat 6 else s2

/-- `enter(m)` (R857, R859). -/
def State.enterMode (s : State) (m : PpuMode) : State :=
  let s1 := { s with mode := m }.setIo 0x41 ((s.io 0x41 &&& 0xFC#8) ||| m.number)
  match m with
  | .vblank => (s1.request 0x01#8).requestStat 4
  | .hblank => s1.requestStat 3
  | .oamSearch => s1.requestStat 5
  | .drawing => s1

/-- The threshold of a mode's counter (R852). -/
def PpuMode.budget : PpuMode → Nat
  | .oamSearch => 80
  | .drawing => 172
  | .hblank => 204
  | .vblank => 456

/-- What a mode does when its counter reaches the threshold (R852), the counter already back at 0. -/
def State.modeEnd (s : State) : State :=
  match s.mode with
  | .oamSearch => s.enterMode .drawing
  | .drawing => (s.render s.line).enterMode .hblank
  | .hblank =>
    let s1 := s.setLine (s.line + 1)
    if s1.line < 144 then s1.enterMode .oamSearch else s1.enterMode .vblank
  | .vblank =>
    if s.line + 1 = 154 then ({ s with winLine := 0 }.setLine 0).enterMode .oamSearch
    else s.setLine (s.line + 1)

/-- `tick()` (R852). -/
def State.tick (s : State) : State :=
  if s.dot + 1 = s.mode.budget then { s with dot := 0 }.modeEnd else { s with dot := s.dot + 1 }

/-- `advance(n)` (R851). -/
def State.advance : Nat → State → State
  | 0, s => s
  | n + 1, s => State.advance n s.tick

end Sys2Proof.Machine
end

