-- ==== Sys2Proof/Machine/Driver.lean ====
section
/-! DEFINITION. The frame driver's loop (62_host_and_frame R901), and where a test word is put for the next
fetch. -/

namespace Sys2Proof.Machine

/-- The rest of a pass after the CPU step: `advance(c)`, then both counters (R901). -/
def State.afterCpu (s : State) : State :=
  let t := State.advance s.cycles s
  { t with frameAcc := t.frameAcc + s.cycles, cycleCount := t.cycleCount + s.cycles }

/-- One pass of `run_frame`'s loop (R901). -/
def State.driverPass (s : State) : Result := thenState s.cpuStep State.afterCpu

/-- `frame_acc <- frame_acc - 70224`, which ends a frame whose budget is used up (R901). -/
def State.closeFrame (s : State) : State :=
  if Config.cyclesPerFrame ≤ s.frameAcc then { s with frameAcc := s.frameAcc - Config.cyclesPerFrame } else s

/-- One step of the whole block: a pass of the driver's loop, and the end of the frame when the pass used up its
budget (R901; log entry 2). -/
def State.driverStep (s : State) : Result := thenState s.driverPass State.closeFrame

/-! ## Putting an instruction where the next step fetches it (log entry 9) -/

/-- The cartridge a program comes in when none is loaded: ROM-only, two banks, all 0x00, no RAM. -/
def blankCart : Cart where
  title := []
  typeCode := 0x00#8
  romCode := 0x00#8
  ramCode := 0x00#8
  cgb := false
  romBanks := 2
  ramSize := 0
  supported := true
  len := 0x8000
  img := []
  ram := []
  ctrl := .romOnly

/-- The image byte a ROM address shows, replaced. -/
def Cart.patchRom (c : Cart) (a : Nat) (v : Byte) : Cart :=
  { c with img := c.img.write (c.romBank a % c.romBanks * 0x4000 + a % 0x4000) v }

/-- The byte an address shows, replaced where there is one to replace. -/
def State.placeByte (s : State) (addr : Word) (v : Byte) : State :=
  match regionOf addr with
  | .rom => { s with cart := some ((s.cart.getD blankCart).patchRom addr.toNat v) }
  | .joypad => { s with buttons := v }
  | _ => s.write addr v

/-- Bytes placed at an address and the ones after it. -/
def State.placeBytes (s : State) (addr : Word) : List Byte → State
  | [] => s
  | v :: rest => (s.placeByte addr v).placeBytes (addr + 1) rest

/-- Whether the three bytes at the pc are these. -/
def State.showsAtPc (s : State) (bytes : List Byte) : Bool :=
  [s.readAt (s.draws + 1) s.pc, s.readAt (s.draws + 2) (s.pc + 1), s.readAt (s.draws + 3) (s.pc + 2)] = bytes

/-- Nothing keeps the next step from fetching at the pc: not stopped, not halted, no halt bug, no dispatch. -/
def State.ready (s : State) : State :=
  let t := { s with stopped := false, halted := false, haltBug := false }
  if t.pending = 0 then t else { t with ime := false }

/-- The machine with three bytes where the next step fetches: at the pc, or, where the pc's addresses hold no
byte that can be set (a closed RAM gate, the unusable range), at 0xC000 with the pc there. -/
def State.withBytes (s : State) (bytes : List Byte) : State :=
  let t := (s.placeBytes s.pc bytes).ready
  if t.showsAtPc bytes then t else ({ s with pc := 0xC000#16 }.placeBytes 0xC000#16 bytes).ready

end Sys2Proof.Machine
end

