-- ==== Sys2Proof/Machine/Step.lean ====
section
/-! DEFINITION. The step of the machine, and a state whose next step runs a given word of the opcode table. -/

namespace Sys2Proof.Machine

/-- One step of the block (Machine/Driver.lean). -/
def step (s : State) : Host.Outcome State Fault Refusal := s.driverStep

/-- `s` with the instruction the table numbers as `w` in `nbits` bits where the next step fetches
(Machine/Driver.lean, Decode.lean, log entries 1 and 9). -/
def State.withFetchWord (s : State) (nbits w : Nat) : State := s.withBytes (tableBytes nbits w)

end Sys2Proof.Machine
end

