-- ==== Sys2Proof/Machine/HostOps.lean ====
section
/-! DEFINITION. The host's operations (62_host_and_frame), each one indivisible transition of the whole machine
between frame calls (R910), and the reset procedure (70_reset R950). -/

namespace Sys2Proof.Machine

/-- `construct()` (R900, R951). -/
def construct : State := State.reset

/-- The reset procedure (R950), which is `reset()` (R904): everything to its power-on value but the buttons, the
frame buffer, and the loaded cartridge with its RAM. -/
def State.resetMachine (s : State) : State :=
  { State.reset with
    cart := s.cart.map Cart.powerOn
    buttons := s.buttons
    frame := s.frame
    draws := s.draws }

/-- `load_rom(bytes)` (R903, R260): a new cartridge and a reset, or an error and no new state (R259). -/
def State.loadRom (s : State) (bytes : List Byte) : Except LoadError State :=
  match Cart.ofImage bytes with
  | .error x => .error x
  | .ok c => .ok ({ s with cart := some c }.resetMachine)

/-- `set_input(code, pressed)` (R909): a pressed button's bit is 0, and a press ends STOP. -/
def State.setInput (s : State) (code : Nat) (pressed : Bool) : State :=
  if code > 7 then s
  else if pressed then { s with buttons := s.buttons &&& ~~~(0x01#8 <<< code), stopped := false }
  else { s with buttons := s.buttons ||| (0x01#8 <<< code) }

/-- The loop of `run_frame()` (R901), at most `fuel` passes. -/
def runFrameLoop : Nat → State → Result
  | 0, s => .next s
  | fuel + 1, s =>
    if s.frameAcc < Config.cyclesPerFrame then
      match s.driverPass with
      | .next t => runFrameLoop fuel t
      | r => r
    else .next s

/-- `run_frame()` (R901). A pass counts at least 4 cycles, so a frame has at most 70224 / 4 of them. -/
def State.runFrame (s : State) : Result :=
  thenState (runFrameLoop (Config.cyclesPerFrame / 4) s) fun t =>
    { t with frameAcc := t.frameAcc - Config.cyclesPerFrame }

/-- The bytes of a pixel: those of its shade with alpha 0xFF (R877), 0x00 if it was never rendered (R150). -/
def pixelBytes : Option (BitVec 2) → List Byte
  | none => [0#8, 0#8, 0#8, 0#8]
  | some sh => [(Config.shadeRgb sh).1, (Config.shadeRgb sh).2.1, (Config.shadeRgb sh).2.2, 0xFF#8]

/-- The shade at column x of row y, if that row has been rendered. -/
def Frame.pixel (fr : Frame) (x y : Nat) : Option (BitVec 2) :=
  match fr.find? (fun row => row.1 = y) with
  | none => none
  | some row => row.2[x]?

/-- `frame[k]` (R143, R902). -/
def State.frameByte (s : State) (k : Nat) : Byte :=
  (pixelBytes (s.frame.pixel (k / 4 % 160) (k / 640))).getD (k % 4) 0

/-- `get_pixels()` (R902): 92160 bytes, row-major, origin top left. -/
def State.getPixels (s : State) : List Byte := (List.range 92160).map s.frameByte

/-- `get_audio()` (R907): the empty sequence. -/
def State.getAudio (_ : State) : List Byte := []

/-- `get_cycle_count()` (R906). Reset and a successful load set the count to 0; that `set_state` may lower it too is the
model's choice (log entry 16). -/
def State.getCycleCount (s : State) : Nat := s.cycleCount

/-- What a host can hand to `set_state`: what a `get_state` returned, or bytes of any other origin. The byte
format is unspecified (R905), so a snapshot is a token (log entry 11). -/
inductive Snapshot where
  | taken (s : State)
  | foreign (bytes : List Byte)
  deriving DecidableEq, Repr

/-- `get_state()` (R905). -/
def State.getState (s : State) : Snapshot := .taken s

/-- A cartridge without what changes in use: its header and image, and nothing else. -/
def Cart.identity (c : Cart) : Cart := { c with ram := [], ctrl := .romOnly }

/-- Whether two machines hold the same cartridge: the same header and image, or none. -/
def sameCart (s t : State) : Bool := s.cart.map Cart.identity = t.cart.map Cart.identity

/-- Why a snapshot is refused: no `get_state` of the same cartridge produced it (R905). -/
inductive SnapshotError where
  | notOfThisCartridge
  deriving DecidableEq, Repr

/-- `set_state(bytes)` (R905): every piece of state restored, or an error and no new state for bytes that no
`get_state` of the same cartridge produced. DESIGN CHOICE, unsafe (log entry 16): R905 has `cycle_count` restored, while
C17 of 90_conflicts.md says that only reset and a successful load decrease it; the model restores it, so a snapshot
with a lower count lowers it. -/
def State.setState (s : State) (snap : Snapshot) : Except SnapshotError State :=
  match snap with
  | .taken t => if sameCart s t then .ok t else .error .notOfThisCartridge
  | .foreign _ => .error .notOfThisCartridge

end Sys2Proof.Machine
end

