-- ==== Sys2Proof/Safety.lean ====
section
/-! DEFINITION. What a legal state of the block is: the invariants the spec states (R103, R109, R265, R831, R854) and the
canonical forms of the model's own data. `State.Inv` is what every step keeps. -/

namespace Sys2Proof.Machine

/-- R103: F's low nibble is 0. R109: `halt_bug` exists only when HALT_BUG is true. -/
def State.cpuOk (s : State) : Prop := s.f &&& 0x0F#8 = 0 ∧ (s.haltBug = true → Config.haltBug = true)

/-- The addresses `mem` keeps bytes under: video memory, work memory, OAM, the I/O block, high memory (R141). -/
def isStorage (k : Nat) : Bool :=
  (0x8000 ≤ k && k < 0xA000) || (0xC000 ≤ k && k < 0xE000) || (0xFE00 ≤ k && k < 0xFEA0) ||
  (0xFF00 ≤ k && k < 0xFFFF)

/-- Memory is in canonical form and lists storage only. -/
def State.memOk (s : State) : Prop := s.mem.wf = true ∧ s.mem.keysIn isStorage = true

/-- R854, with the range of `win_line` (R872: it counts rendered lines of the frame). -/
def State.ppuOk (s : State) : Prop :=
  s.line < 154 ∧ s.dot < s.mode.budget ∧ (s.mode = .vblank ↔ 144 ≤ s.line) ∧
  s.winLine ≤ 144 ∧ s.winLine ≤ s.line + (if s.mode = .hblank then 1 else 0)

/-- The controller registers in their ranges: banks that are never 0 (R276, R280, R284), three bits of RAM bank
on a rumble board (R288). -/
def Controller.ok (typeCode : Byte) : Controller → Prop
  | .romOnly => True
  | .mbc1 r => r.bank1 ≠ 0
  | .mbc2 r => r.romb ≠ 0
  | .mbc3 r => r.romb ≠ 0
  | .mbc5 r => isRumble typeCode = true → r.ramb < 8

/-- Two controllers of one kind, whatever their registers hold. -/
def Controller.sameKind : Controller → Controller → Bool
  | .romOnly, .romOnly => true
  | .mbc1 _, .mbc1 _ => true
  | .mbc2 _, .mbc2 _ => true
  | .mbc3 _, .mbc3 _ => true
  | .mbc5 _, .mbc5 _ => true
  | _, _ => false

/-- A cartridge as a load makes one and use keeps it: at least a header (R252), a power of two of banks (R256),
a size of the fixed table (R257, R281), bytes within image and RAM in canonical form, four-bit cells in MBC2 (R281), and the
controller of its type code (R255). -/
structure Cart.Ok (c : Cart) : Prop where
  len   : 0x150 ≤ c.len
  banks : ∃ k, c.romBanks = 2 ^ (k + 1)
  size  : c.ramSize ∈ [0, 512, 0x800, 0x2000, 0x8000, 0x10000, 0x20000]
  img   : c.img.wf = true ∧ c.img.keysIn (· < c.len) = true
  ram   : c.ram.wf = true ∧ c.ram.keysIn (· < c.ramSize) = true
  kind  : c.ctrl.sameKind (controllerOf c.typeCode) = true
  ctrl  : c.ctrl.ok c.typeCode
  mbc2  : ∀ r, c.ctrl = .mbc2 r → c.ramSize = 512 ∧ c.ram.all (fun cell => cell.2 ≤ 0x0F#8) = true

/-- The loaded cartridge, if there is one, is as it should be. -/
def State.cartOk (s : State) : Prop := ∀ c, s.cart = some c → c.Ok

/-- Lines strictly rising. -/
def Frame.rising : Frame → Bool
  | [] => true
  | (y, _) :: fr => (match fr with | [] => true | (z, _) :: _ => y < z) && Frame.rising fr

/-- The frame buffer lists visible lines once each, with 160 pixels (R877, R879). -/
def State.frameOk (s : State) : Prop :=
  s.frame.rising = true ∧ s.frame.all (fun row => row.1 < 144 && row.2.length = 160) = true

/-- R143: between passes `frame_acc` is below a frame's budget. -/
def State.driverOk (s : State) : Prop := s.frameAcc < Config.cyclesPerFrame

/-- The legal states. -/
structure State.Inv (s : State) : Prop where
  cpu    : s.cpuOk
  mem    : s.memOk
  ppu    : s.ppuOk
  cart   : s.cartOk
  frame  : s.frameOk
  driver : s.driverOk

end Sys2Proof.Machine
end

