-- ==== Sys2Proof/Certificates/Slice0/Forms.lean ====
section
/-! DEFINITION. The vocabulary of the statements in Obligations.lean: the instruction forms of the spec's rules (which
constructor of `Instr` a rule's register, bit or condition field names), what the flags are, and which bytes a
store may change. Nothing here is part of the machine. -/

namespace Sys2Proof

open Sys2Proof.Machine

/-! ## Operand fields (R305 to R310) -/

/-- The 3-bit code of a register (R305). -/
def Reg8.code : Reg8 → Nat
  | .b => 0 | .c => 1 | .d => 2 | .e => 3 | .h => 4 | .l => 5 | .a => 7

/-- The field `dd` (R306). -/
inductive Dd where
  | bc | de | hl | sp
  deriving DecidableEq, Repr

/-- The 2-bit code of `dd`. -/
def Dd.code : Dd → Nat
  | .bc => 0 | .de => 1 | .hl => 2 | .sp => 3

/-- The 16-bit register `dd` selects. -/
def Dd.pair : Dd → Reg16
  | .bc => .bc | .de => .de | .hl => .hl | .sp => .sp

/-- The field `qq` (R307). -/
inductive Qq where
  | bc | de | hl | af
  deriving DecidableEq, Repr

/-- The 2-bit code of `qq`. -/
def Qq.code : Qq → Nat
  | .bc => 0 | .de => 1 | .hl => 2 | .af => 3

/-- The register pair `qq` selects. -/
def Qq.pair : Qq → Reg16
  | .bc => .bc | .de => .de | .hl => .hl | .af => .af

/-- The 2-bit code of a condition (R310). -/
def Cond.code : Cond → Nat
  | .nz => 0 | .z => 1 | .nc => 2 | .c => 3

/-- When a condition holds, by the bits of F (R310). -/
def Cond.Holds (f : Byte) : Cond → Prop
  | .nz => f.getLsbD 7 = false
  | .z => f.getLsbD 7 = true
  | .nc => f.getLsbD 4 = false
  | .c => f.getLsbD 4 = true

/-- A 3-bit register field, the value 6 being the byte at HL (R305). -/
inductive Target where
  | reg (r : Reg8)
  | mhl
  deriving DecidableEq, Repr

/-- Its code. -/
def Target.code : Target → Nat
  | .reg r => r.code
  | .mhl => 6

/-- `src(r)` (R309). -/
def Target.value (s : State) : Target → Byte
  | .reg r => s.reg r
  | .mhl => s.read s.hl

/-- `dst(r) <- v` (R309). -/
def Target.put (s : State) (v : Byte) : Target → State
  | .reg r => s.setReg r v
  | .mhl => s.write s.hl v

/-- `onReg` for a register, `onMem` for the byte at HL. -/
def Target.cost (onReg onMem : Nat) : Target → Nat
  | .reg _ => onReg
  | .mhl => onMem

/-- An ALU operand (R502). -/
inductive Operand where
  | reg (r : Reg8)
  | mhl
  | imm (n : Byte)
  deriving DecidableEq, Repr

/-- The operand's byte. -/
def Operand.value (s : State) : Operand → Byte
  | .reg r => s.reg r
  | .mhl => s.read s.hl
  | .imm n => n

/-- Its cycles: 4 for a register, 8 for the others (R502). -/
def Operand.cost : Operand → Nat
  | .reg _ => 4
  | .mhl => 8
  | .imm _ => 8

/-- The ALU operations (R502, R311). -/
inductive AluOp where
  | add | adc | sub | sbc | and | xor | or | cp
  deriving DecidableEq, Repr

/-- The 3-bit code `ooo` (R502). -/
def AluOp.code : AluOp → Nat
  | .add => 0 | .adc => 1 | .sub => 2 | .sbc => 3 | .and => 4 | .xor => 5 | .or => 6 | .cp => 7

/-- `10ooozzz`, `10ooo110`, `11ooo110 nnnnnnnn` (R502). -/
def aluBytes (op : AluOp) : Operand → List Byte
  | .reg r => [BitVec.ofNat 8 (0x80 + 8 * op.code + r.code)]
  | .mhl => [BitVec.ofNat 8 (0x86 + 8 * op.code)]
  | .imm n => [BitVec.ofNat 8 (0xC6 + 8 * op.code), n]

/-- The rotates and shifts behind the prefix (R313). -/
inductive ShiftOp where
  | rlc | rrc | rl | rr | sla | sra | swap | srl
  deriving DecidableEq, Repr

/-- The 3-bit code of a shift (R313). -/
def ShiftOp.code : ShiftOp → Nat
  | .rlc => 0 | .rrc => 1 | .rl => 2 | .rr => 3 | .sla => 4 | .sra => 5 | .swap => 6 | .srl => 7

/-- One of eight, by a 3-bit number. -/
def oneOf8 {α : Type} (x0 x1 x2 x3 x4 x5 x6 x7 : α) : Fin 8 → α
  | 0 => x0 | 1 => x1 | 2 => x2 | 3 => x3 | 4 => x4 | 5 => x5 | 6 => x6 | 7 => x7

/-! ## The forms -/

/-- LD r,r' (R400). -/
def ldRegReg : Reg8 → Reg8 → Instr
  | .b, x => (match x with
    | .b => .ld_b_b | .c => .ld_b_c | .d => .ld_b_d | .e => .ld_b_e | .h => .ld_b_h | .l => .ld_b_l | .a => .ld_b_a)
  | .c, x => (match x with
    | .b => .ld_c_b | .c => .ld_c_c | .d => .ld_c_d | .e => .ld_c_e | .h => .ld_c_h | .l => .ld_c_l | .a => .ld_c_a)
  | .d, x => (match x with
    | .b => .ld_d_b | .c => .ld_d_c | .d => .ld_d_d | .e => .ld_d_e | .h => .ld_d_h | .l => .ld_d_l | .a => .ld_d_a)
  | .e, x => (match x with
    | .b => .ld_e_b | .c => .ld_e_c | .d => .ld_e_d | .e => .ld_e_e | .h => .ld_e_h | .l => .ld_e_l | .a => .ld_e_a)
  | .h, x => (match x with
    | .b => .ld_h_b | .c => .ld_h_c | .d => .ld_h_d | .e => .ld_h_e | .h => .ld_h_h | .l => .ld_h_l | .a => .ld_h_a)
  | .l, x => (match x with
    | .b => .ld_l_b | .c => .ld_l_c | .d => .ld_l_d | .e => .ld_l_e | .h => .ld_l_h | .l => .ld_l_l | .a => .ld_l_a)
  | .a, x => (match x with
    | .b => .ld_a_b | .c => .ld_a_c | .d => .ld_a_d | .e => .ld_a_e | .h => .ld_a_h | .l => .ld_a_l | .a => .ld_a_a)

/-- LD r,n (R401). -/
def ldRegImm : Byte → Reg8 → Instr
  | n, .b => .ld_b_n n
  | n, .c => .ld_c_n n
  | n, .d => .ld_d_n n
  | n, .e => .ld_e_n n
  | n, .h => .ld_h_n n
  | n, .l => .ld_l_n n
  | n, .a => .ld_a_n n

/-- LD r,(HL) (R402). -/
def ldRegMem : Reg8 → Instr
  | .b => .ld_b_mhl
  | .c => .ld_c_mhl
  | .d => .ld_d_mhl
  | .e => .ld_e_mhl
  | .h => .ld_h_mhl
  | .l => .ld_l_mhl
  | .a => .ld_a_mhl

/-- LD (HL),r (R403). -/
def ldMemReg : Reg8 → Instr
  | .b => .ld_mhl_b
  | .c => .ld_mhl_c
  | .d => .ld_mhl_d
  | .e => .ld_mhl_e
  | .h => .ld_mhl_h
  | .l => .ld_mhl_l
  | .a => .ld_mhl_a

/-- LD rr,nn (R440). -/
def ldPairImm : Word → Dd → Instr
  | nn, .bc => .ld_bc_nn nn
  | nn, .de => .ld_de_nn nn
  | nn, .hl => .ld_hl_nn nn
  | nn, .sp => .ld_sp_nn nn

/-- PUSH rr (R452). -/
def pushPair : Qq → Instr
  | .bc => .push_bc
  | .de => .push_de
  | .hl => .push_hl
  | .af => .push_af

/-- POP AF (R453) and POP rr (R454). -/
def popPair : Qq → Instr
  | .bc => .pop_bc
  | .de => .pop_de
  | .hl => .pop_hl
  | .af => .pop_af

/-- The 72 ALU instructions (R503 to R526). -/
def aluInstr : AluOp → Operand → Instr
  | .add, x => (match x with
    | .reg .b => .add_a_b | .reg .c => .add_a_c | .reg .d => .add_a_d | .reg .e => .add_a_e | .reg .h => .add_a_h | .reg .l => .add_a_l | .reg .a => .add_a_a
    | .mhl => .add_a_mhl | .imm n => .add_a_n n)
  | .adc, x => (match x with
    | .reg .b => .adc_a_b | .reg .c => .adc_a_c | .reg .d => .adc_a_d | .reg .e => .adc_a_e | .reg .h => .adc_a_h | .reg .l => .adc_a_l | .reg .a => .adc_a_a
    | .mhl => .adc_a_mhl | .imm n => .adc_a_n n)
  | .sub, x => (match x with
    | .reg .b => .sub_b | .reg .c => .sub_c | .reg .d => .sub_d | .reg .e => .sub_e | .reg .h => .sub_h | .reg .l => .sub_l | .reg .a => .sub_a
    | .mhl => .sub_mhl | .imm n => .sub_n n)
  | .sbc, x => (match x with
    | .reg .b => .sbc_a_b | .reg .c => .sbc_a_c | .reg .d => .sbc_a_d | .reg .e => .sbc_a_e | .reg .h => .sbc_a_h | .reg .l => .sbc_a_l | .reg .a => .sbc_a_a
    | .mhl => .sbc_a_mhl | .imm n => .sbc_a_n n)
  | .and, x => (match x with
    | .reg .b => .and_b | .reg .c => .and_c | .reg .d => .and_d | .reg .e => .and_e | .reg .h => .and_h | .reg .l => .and_l | .reg .a => .and_a
    | .mhl => .and_mhl | .imm n => .and_n n)
  | .xor, x => (match x with
    | .reg .b => .xor_b | .reg .c => .xor_c | .reg .d => .xor_d | .reg .e => .xor_e | .reg .h => .xor_h | .reg .l => .xor_l | .reg .a => .xor_a
    | .mhl => .xor_mhl | .imm n => .xor_n n)
  | .or, x => (match x with
    | .reg .b => .or_b | .reg .c => .or_c | .reg .d => .or_d | .reg .e => .or_e | .reg .h => .or_h | .reg .l => .or_l | .reg .a => .or_a
    | .mhl => .or_mhl | .imm n => .or_n n)
  | .cp, x => (match x with
    | .reg .b => .cp_b | .reg .c => .cp_c | .reg .d => .cp_d | .reg .e => .cp_e | .reg .h => .cp_h | .reg .l => .cp_l | .reg .a => .cp_a
    | .mhl => .cp_mhl | .imm n => .cp_n n)

/-- INC r and INC (HL) (R527, R528). -/
def incInstr : Target → Instr
  | .reg .b => .inc_b
  | .reg .c => .inc_c
  | .reg .d => .inc_d
  | .reg .e => .inc_e
  | .reg .h => .inc_h
  | .reg .l => .inc_l
  | .reg .a => .inc_a
  | .mhl => .inc_mhl

/-- DEC r and DEC (HL) (R529, R530). -/
def decInstr : Target → Instr
  | .reg .b => .dec_b
  | .reg .c => .dec_c
  | .reg .d => .dec_d
  | .reg .e => .dec_e
  | .reg .h => .dec_h
  | .reg .l => .dec_l
  | .reg .a => .dec_a
  | .mhl => .dec_mhl

/-- ADD HL,rr (R550). -/
def addHlPair : Dd → Instr
  | .bc => .add_hl_bc
  | .de => .add_hl_de
  | .hl => .add_hl_hl
  | .sp => .add_hl_sp

/-- INC rr (R552). -/
def incPair : Dd → Instr
  | .bc => .inc_bc
  | .de => .inc_de
  | .hl => .inc_hl
  | .sp => .inc_sp

/-- DEC rr (R553). -/
def decPair : Dd → Instr
  | .bc => .dec_bc
  | .de => .dec_de
  | .hl => .dec_hl
  | .sp => .dec_sp

/-- The 64 rotates and shifts (R604 to R619). -/
def shiftInstr : ShiftOp → Target → Instr
  | .rlc, x => (match x with
    | .reg .b => .rlc_b | .reg .c => .rlc_c | .reg .d => .rlc_d | .reg .e => .rlc_e | .reg .h => .rlc_h | .reg .l => .rlc_l | .reg .a => .rlc_a | .mhl => .rlc_mhl)
  | .rrc, x => (match x with
    | .reg .b => .rrc_b | .reg .c => .rrc_c | .reg .d => .rrc_d | .reg .e => .rrc_e | .reg .h => .rrc_h | .reg .l => .rrc_l | .reg .a => .rrc_a | .mhl => .rrc_mhl)
  | .rl, x => (match x with
    | .reg .b => .rl_b | .reg .c => .rl_c | .reg .d => .rl_d | .reg .e => .rl_e | .reg .h => .rl_h | .reg .l => .rl_l | .reg .a => .rl_a | .mhl => .rl_mhl)
  | .rr, x => (match x with
    | .reg .b => .rr_b | .reg .c => .rr_c | .reg .d => .rr_d | .reg .e => .rr_e | .reg .h => .rr_h | .reg .l => .rr_l | .reg .a => .rr_a | .mhl => .rr_mhl)
  | .sla, x => (match x with
    | .reg .b => .sla_b | .reg .c => .sla_c | .reg .d => .sla_d | .reg .e => .sla_e | .reg .h => .sla_h | .reg .l => .sla_l | .reg .a => .sla_a | .mhl => .sla_mhl)
  | .sra, x => (match x with
    | .reg .b => .sra_b | .reg .c => .sra_c | .reg .d => .sra_d | .reg .e => .sra_e | .reg .h => .sra_h | .reg .l => .sra_l | .reg .a => .sra_a | .mhl => .sra_mhl)
  | .swap, x => (match x with
    | .reg .b => .swap_b | .reg .c => .swap_c | .reg .d => .swap_d | .reg .e => .swap_e | .reg .h => .swap_h | .reg .l => .swap_l | .reg .a => .swap_a | .mhl => .swap_mhl)
  | .srl, x => (match x with
    | .reg .b => .srl_b | .reg .c => .srl_c | .reg .d => .srl_d | .reg .e => .srl_e | .reg .h => .srl_h | .reg .l => .srl_l | .reg .a => .srl_a | .mhl => .srl_mhl)

/-- BIT b,r and BIT b,(HL) (R620, R621). -/
def bitInstr (b : Fin 8) : Target → Instr
  | .reg .b => oneOf8 .bit_0_b .bit_1_b .bit_2_b .bit_3_b .bit_4_b .bit_5_b .bit_6_b .bit_7_b b
  | .reg .c => oneOf8 .bit_0_c .bit_1_c .bit_2_c .bit_3_c .bit_4_c .bit_5_c .bit_6_c .bit_7_c b
  | .reg .d => oneOf8 .bit_0_d .bit_1_d .bit_2_d .bit_3_d .bit_4_d .bit_5_d .bit_6_d .bit_7_d b
  | .reg .e => oneOf8 .bit_0_e .bit_1_e .bit_2_e .bit_3_e .bit_4_e .bit_5_e .bit_6_e .bit_7_e b
  | .reg .h => oneOf8 .bit_0_h .bit_1_h .bit_2_h .bit_3_h .bit_4_h .bit_5_h .bit_6_h .bit_7_h b
  | .reg .l => oneOf8 .bit_0_l .bit_1_l .bit_2_l .bit_3_l .bit_4_l .bit_5_l .bit_6_l .bit_7_l b
  | .reg .a => oneOf8 .bit_0_a .bit_1_a .bit_2_a .bit_3_a .bit_4_a .bit_5_a .bit_6_a .bit_7_a b
  | .mhl => oneOf8 .bit_0_mhl .bit_1_mhl .bit_2_mhl .bit_3_mhl .bit_4_mhl .bit_5_mhl .bit_6_mhl .bit_7_mhl b

/-- RES b,r and RES b,(HL) (R622, R623). -/
def resInstr (b : Fin 8) : Target → Instr
  | .reg .b => oneOf8 .res_0_b .res_1_b .res_2_b .res_3_b .res_4_b .res_5_b .res_6_b .res_7_b b
  | .reg .c => oneOf8 .res_0_c .res_1_c .res_2_c .res_3_c .res_4_c .res_5_c .res_6_c .res_7_c b
  | .reg .d => oneOf8 .res_0_d .res_1_d .res_2_d .res_3_d .res_4_d .res_5_d .res_6_d .res_7_d b
  | .reg .e => oneOf8 .res_0_e .res_1_e .res_2_e .res_3_e .res_4_e .res_5_e .res_6_e .res_7_e b
  | .reg .h => oneOf8 .res_0_h .res_1_h .res_2_h .res_3_h .res_4_h .res_5_h .res_6_h .res_7_h b
  | .reg .l => oneOf8 .res_0_l .res_1_l .res_2_l .res_3_l .res_4_l .res_5_l .res_6_l .res_7_l b
  | .reg .a => oneOf8 .res_0_a .res_1_a .res_2_a .res_3_a .res_4_a .res_5_a .res_6_a .res_7_a b
  | .mhl => oneOf8 .res_0_mhl .res_1_mhl .res_2_mhl .res_3_mhl .res_4_mhl .res_5_mhl .res_6_mhl .res_7_mhl b

/-- SET b,r and SET b,(HL) (R624, R625). -/
def setInstr (b : Fin 8) : Target → Instr
  | .reg .b => oneOf8 .set_0_b .set_1_b .set_2_b .set_3_b .set_4_b .set_5_b .set_6_b .set_7_b b
  | .reg .c => oneOf8 .set_0_c .set_1_c .set_2_c .set_3_c .set_4_c .set_5_c .set_6_c .set_7_c b
  | .reg .d => oneOf8 .set_0_d .set_1_d .set_2_d .set_3_d .set_4_d .set_5_d .set_6_d .set_7_d b
  | .reg .e => oneOf8 .set_0_e .set_1_e .set_2_e .set_3_e .set_4_e .set_5_e .set_6_e .set_7_e b
  | .reg .h => oneOf8 .set_0_h .set_1_h .set_2_h .set_3_h .set_4_h .set_5_h .set_6_h .set_7_h b
  | .reg .l => oneOf8 .set_0_l .set_1_l .set_2_l .set_3_l .set_4_l .set_5_l .set_6_l .set_7_l b
  | .reg .a => oneOf8 .set_0_a .set_1_a .set_2_a .set_3_a .set_4_a .set_5_a .set_6_a .set_7_a b
  | .mhl => oneOf8 .set_0_mhl .set_1_mhl .set_2_mhl .set_3_mhl .set_4_mhl .set_5_mhl .set_6_mhl .set_7_mhl b

/-- JP cc,nn (R651). -/
def jpCond : Word → Cond → Instr
  | nn, .nz => .jp_nz_nn nn
  | nn, .z => .jp_z_nn nn
  | nn, .nc => .jp_nc_nn nn
  | nn, .c => .jp_c_nn nn

/-- JR cc,e (R654). -/
def jrCond : Byte → Cond → Instr
  | e, .nz => .jr_nz_e e
  | e, .z => .jr_z_e e
  | e, .nc => .jr_nc_e e
  | e, .c => .jr_c_e e

/-- CALL cc,nn (R661). -/
def callCond : Word → Cond → Instr
  | nn, .nz => .call_nz_nn nn
  | nn, .z => .call_z_nn nn
  | nn, .nc => .call_nc_nn nn
  | nn, .c => .call_c_nn nn

/-- RET cc (R666). -/
def retCond : Cond → Instr
  | .nz => .ret_nz
  | .z => .ret_z
  | .nc => .ret_nc
  | .c => .ret_c

/-- RST t, t = 8 * y (R668). -/
def rstInstr : Fin 8 → Instr := oneOf8 .rst_00 .rst_08 .rst_10 .rst_18 .rst_20 .rst_28 .rst_30 .rst_38

/-- The 11 undefined opcodes with their bytes (R314). -/
def undefinedOpcodes : List (Instr × Byte) := [
  (.undefined_d3, 0xD3#8),
  (.undefined_db, 0xDB#8),
  (.undefined_dd, 0xDD#8),
  (.undefined_e3, 0xE3#8),
  (.undefined_e4, 0xE4#8),
  (.undefined_eb, 0xEB#8),
  (.undefined_ec, 0xEC#8),
  (.undefined_ed, 0xED#8),
  (.undefined_f4, 0xF4#8),
  (.undefined_fc, 0xFC#8),
  (.undefined_fd, 0xFD#8)]

/-- R303, the lists of first bytes written out again: the length of an instruction. -/
def lengthByFirstByte (b : Byte) : Nat :=
  if b.toNat ∈ [0x01, 0x11, 0x21, 0x31, 0x08, 0xC2, 0xC3, 0xC4, 0xCA, 0xCC, 0xCD, 0xD2, 0xD4, 0xDA, 0xDC, 0xEA,
      0xFA] then 3
  else if b.toNat ∈ [0x06, 0x0E, 0x16, 0x1E, 0x26, 0x2E, 0x36, 0x3E, 0x10, 0x18, 0x20, 0x28, 0x30, 0x38, 0xC6, 0xCE,
      0xD6, 0xDE, 0xE6, 0xEE, 0xF6, 0xFE, 0xE0, 0xF0, 0xE8, 0xF8, 0xCB] then 2
  else 1

/-! ## Flags -/

/-- What the four flags are, the low nibble being 0 (R102, R103). -/
def FlagsAre (t : State) (z n h c : Prop) : Prop :=
  (t.f.getLsbD 7 = true ↔ z) ∧ (t.f.getLsbD 6 = true ↔ n) ∧ (t.f.getLsbD 5 = true ↔ h) ∧
  (t.f.getLsbD 4 = true ↔ c) ∧ t.f &&& 0x0F#8 = 0

/-! ## Stores -/

/-- The addresses whose byte a store to `addr` may change (R202): `addr` itself; an alias of its cell (the echo R208,
IE R212, a repeat of cartridge RAM R265, R281); and, for a bank-controller command, everything the cartridge
shows (R204). -/
def Touches (s : State) (addr a : Word) : Prop :=
  a = addr ∨ cellOf a = cellOf addr ∨
  (regionOf addr = .rom ∧ (regionOf a = .rom ∨ regionOf a = .extRam)) ∨
  (regionOf addr = .extRam ∧ regionOf a = .extRam ∧
    ∃ c, s.cart = some c ∧ c.ramTarget a.toNat = c.ramTarget addr.toNat)

/-- Every byte a store of one byte to `addr` does not touch reads in `t` as it read in `s`. -/
def StoreFrame (s t : State) (addr : Word) : Prop := ∀ a, ¬ Touches s addr a → t.read a = s.read a

/-- The same for a store of two bytes, the first to `addr1`: a command among them can change what the second
one reaches, so the second is judged in the state after the first. -/
def StoreFrame2 (s m t : State) (addr1 addr2 : Word) : Prop :=
  ∀ a, ¬ Touches s addr1 a → ¬ Touches m addr2 a → t.read a = s.read a

/-- The instructions that may store to memory: the 8-bit stores and LD (nn),SP, PUSH, INC, DEC, the shifts, RES and SET of
the byte at HL, CALL, CALL cc and RST (the rules of 40 to 45 that write memory). -/
def IsStore (i : Instr) : Prop :=
  (∃ r, i = ldMemReg r) ∨ (∃ n, i = .ld_mhl_n n) ∨ i = .ld_mbc_a ∨ i = .ld_mde_a ∨ (∃ nn, i = .ld_mnn_a nn) ∨
  (∃ n, i = .ldh_mn_a n) ∨ i = .ld_mc_a ∨ i = .ld_mhli_a ∨ i = .ld_mhld_a ∨ (∃ nn, i = .ld_mnn_sp nn) ∨
  (∃ q, i = pushPair q) ∨ i = incInstr .mhl ∨ i = decInstr .mhl ∨ (∃ op, i = shiftInstr op .mhl) ∨
  (∃ b, i = resInstr b .mhl ∨ i = setInstr b .mhl) ∨ (∃ nn, i = .call_nn nn) ∨ (∃ nn cc, i = callCond nn cc) ∨
  (∃ y, i = rstInstr y)

/-- Memory, cartridge and every byte the bus reads are the same in two states. -/
def SameMemory (s t : State) : Prop := t.mem = s.mem ∧ t.cart = s.cart ∧ ∀ a, t.read a = s.read a

/-- An address whose byte is the machine's own storage and readable: video memory, work memory, echo, OAM, the I/O
block but for JOYP, high memory and IE (R202). -/
def IsRam (a : Word) : Prop :=
  regionOf a = .vram ∨ regionOf a = .wram ∨ regionOf a = .echo ∨ regionOf a = .oam ∨ regionOf a = .io ∨
  regionOf a = .hram ∨ regionOf a = .ie

/-! ## A step around `exec` -/

/-- The three bytes the next fetches can read: the opcode at the pc, which a halt bug does not move past, and the two
from there on (R301); each fetch has its own draw (log entry 4). -/
def bytesToFetch (s : State) : List Byte :=
  let p1 := if s.haltBug then s.pc else s.pc + 1
  [s.readAt (s.draws + 1) s.pc, s.readAt (s.draws + 2) p1, s.readAt (s.draws + 3) (p1 + 1)]

/-- The state `exec` is given: the pc past the instruction's bytes (R105, one less after a halt bug), woken, the halt
bug consumed, a draw counted for each byte and one before them. -/
def afterFetch (s : State) (i : Instr) : State :=
  { s with
    pc := s.pc + BitVec.ofNat 16 (encode i).length - (if s.haltBug then 1 else 0)
    haltBug := false
    halted := false
    draws := s.draws + (encode i).length + 1 }

/-- What a pass does after `exec`: the EI delay (R707), the PPU advanced by the count, both counters (R901), and the
frame's budget taken off once it is reached. -/
def endOfPass (pend : Bool) (t : State) : State :=
  let u := if pend = true ∧ t.eiPending = true then { t with ime := true, eiPending := false } else t
  let v := State.advance u.cycles u
  { v with
    frameAcc := if 70224 ≤ v.frameAcc + u.cycles then v.frameAcc + u.cycles - 70224 else v.frameAcc + u.cycles
    cycleCount := v.cycleCount + u.cycles }

/-- The address a dispatch pushes (R813). -/
def returnAddress (s : State) : Word := if s.haltBug then s.pc - 1 else s.pc

/-! ## Cartridge bytes -/

/-- The byte of bank `b` (reduced by R265) that a ROM address shows, 0xFF past the image (R263). -/
def romByteAt (c : Cart) (b : Nat) (a : Word) : Byte :=
  if b % c.romBanks * 0x4000 + a.toNat % 0x4000 < c.len then c.img.read (b % c.romBanks * 0x4000 + a.toNat % 0x4000)
  else 0xFF#8

/-- The RAM offset of bank `rb` at an address of the window, reduced by R265. -/
def ramOffset (c : Cart) (rb : Nat) (a : Word) : Nat := (rb * 0x2000 + (a.toNat - 0xA000)) % c.ramSize

/-! ## Pixels -/

/-- The mode numbers (R853). -/
def modeNumber : PpuMode → Nat
  | .hblank => 0 | .vblank => 1 | .oamSearch => 2 | .drawing => 3

/-- Bit `k` of a byte as 0 or 1. -/
def bitOf (v : Byte) (k : Nat) : Nat := v.toNat / 2 ^ k % 2

/-- The byte of the tile map 0x9800 (`sel` = 0) or 0x9C00 at a column and row (R871). -/
def mapByte (s : State) (sel col row : Nat) : Byte :=
  s.read (BitVec.ofNat 16 (0x9800 + 0x400 * sel + 32 * row + col))

/-- `tile_pixel(t, cx, cy)` (R871): the two bytes of the tile's row, bit 7 - cx of each. -/
def tilePixelAt (s : State) (t : Byte) (cx cy : Nat) : Nat :=
  let base : Int := if bitOf (s.read 0xFF40#16) 4 = 1 then 0x8000 + 16 * t.toNat else 0x9000 + 16 * t.toInt
  2 * bitOf (s.read (BitVec.ofInt 16 (base + 2 * cy + 1))) (7 - cx) +
    bitOf (s.read (BitVec.ofInt 16 (base + 2 * cy))) (7 - cx)

/-- The window's conditions at a pixel (R872), LCDC bit 0 apart. -/
def windowAt (s : State) (ly x : Nat) : Prop :=
  bitOf (s.read 0xFF40#16) 5 = 1 ∧ (s.read 0xFF4A#16).toNat ≤ ly ∧ (s.read 0xFF4B#16).toNat ≤ x + 7

/-- OAM entry `k` covers line `ly` (R874). -/
def coversLine (s : State) (ly k : Nat) : Bool :=
  let y := (s.read (BitVec.ofNat 16 (0xFE00 + 4 * k))).toNat
  y ≤ ly + 16 && ly + 16 < y + (if bitOf (s.read 0xFF40#16) 2 = 1 then 16 else 8)

/-- `(P >> (2 * c)) & 3` (R129, R877). -/
def shadeBits (palette : Byte) (c : Nat) : Nat := palette.toNat / 2 ^ (2 * c) % 4

/-- The sprite height (R874). -/
def spriteRows (s : State) : Nat := if bitOf (s.read 0xFF40#16) 2 = 1 then 16 else 8

/-- The four bytes of entry `k` of OAM, read over the bus: Y, X, tile and attributes (R873). -/
def spriteAt (s : State) (k : Nat) : Sprite :=
  { y := s.read (BitVec.ofNat 16 (0xFE00 + 4 * k))
    x := s.read (BitVec.ofNat 16 (0xFE00 + 4 * k + 1))
    tile := s.read (BitVec.ofNat 16 (0xFE00 + 4 * k + 2))
    attr := s.read (BitVec.ofNat 16 (0xFE00 + 4 * k + 3)) }

/-- A sprite's colour index at a pixel of its columns and rows (R875). -/
def spritePixelAt (s : State) (q : Sprite) (ly x : Nat) : Nat :=
  let row := if bitOf q.attr 6 = 1 then spriteRows s - 1 - (ly + 16 - q.y.toNat) else ly + 16 - q.y.toNat
  let col := if bitOf q.attr 5 = 1 then 7 - (x + 8 - q.x.toNat) else x + 8 - q.x.toNat
  let tile := if bitOf (s.read 0xFF40#16) 2 = 1 then q.tile.toNat / 2 * 2 else q.tile.toNat
  2 * bitOf (s.read (BitVec.ofNat 16 (0x8000 + 16 * tile + 2 * row + 1))) (7 - col) +
    bitOf (s.read (BitVec.ofNat 16 (0x8000 + 16 * tile + 2 * row))) (7 - col)

/-- The thresholds of R852. -/
def modeCycles : PpuMode → Nat
  | .oamSearch => 80 | .drawing => 172 | .hblank => 204 | .vblank => 456

/-! ## Headers (R255, R257, R291) -/

/-- The type codes R255 marks "yes". -/
def supportedCodes : List Nat :=
  [0x00, 0x08, 0x09, 0x01, 0x02, 0x03, 0x05, 0x06, 0x0F, 0x10, 0x11, 0x12, 0x13, 0x19, 0x1A, 0x1B, 0x1C, 0x1D, 0x1E]

/-- The controller of a type code (R255) with R291's registers. -/
def powerOnController (code : Nat) : Controller :=
  if code ∈ [0x01, 0x02, 0x03] then .mbc1 ⟨false, 1, 0, false⟩
  else if code ∈ [0x05, 0x06] then .mbc2 ⟨false, 1⟩
  else if code ∈ [0x0F, 0x10, 0x11, 0x12, 0x13] then .mbc3 ⟨false, 1, 0⟩
  else if code ∈ [0x19, 0x1A, 0x1B, 0x1C, 0x1D, 0x1E] then .mbc5 ⟨false, 1, 0⟩
  else .romOnly

/-- The RAM a cartridge has: 512 cells for MBC2, none for an unsupported type (R262), else R257's table. -/
def ramSizeByHeader (typeCode ramCode : Nat) : Nat :=
  if typeCode ∈ [0x05, 0x06] then 512
  else if typeCode ∉ supportedCodes then 0
  else match ramCode with
    | 1 => 0x800 | 2 => 0x2000 | 3 => 0x8000 | 4 => 0x20000 | 5 => 0x10000 | _ => 0

/-! ## The driver's loop (R901) -/

/-- `u` is reached from `s` by passes of the loop, each begun with `frame_acc` below 70224. -/
inductive Passes : State → State → Prop where
  | done (s : State) : Passes s s
  | pass (s m u : State) : s.frameAcc < 70224 → s.driverPass = .next m → Passes m u → Passes s u

end Sys2Proof
end

