-- ==== Sys2Proof/Certificates/Slice0/Obligations.lean ====
section
/-! DEFINITION. The statements for the provers, family by family. Every statement about an instruction has as its
conclusion that `exec` answers a next state, and says of that state what the rule gives and that everything else
is as before: as one record update of the state before, and for a store by the byte reads of the addresses the
store does not touch (`StoreFrame`). The state handed to `exec` has the pc past the instruction's bytes (R105);
`Obligations.StepRunsDecodedInstruction` ties `exec` to a step. -/

open Sys2Proof Sys2Proof.Machine

/-! ## Encoding (30_encoding) -/

/-- Decoding the encoding of any instruction gives the instruction back, with every operand at every value its
encoding admits, and leaves what follows. -/
def Obligations.DecodeEncode : Prop :=
  ∀ (i : Instr) (rest : List Byte), decode (encode i ++ rest) = .ok (i, rest)

/-- The other direction: whatever decodes was the encoding of the instruction, so that each string of bytes has
one meaning (STOP's ignored byte included, R315). -/
def Obligations.EncodeDecode : Prop :=
  ∀ (bytes : List Byte) (i : Instr) (rest : List Byte), decode bytes = .ok (i, rest) → encode i ++ rest = bytes

/-- R303: the first byte alone gives the length; every first byte starts an instruction; a string that ends
inside one is refused. -/
def Obligations.FirstByteGivesLength : Prop :=
  (∀ i : Instr, ∃ b tail, encode i = b :: tail ∧ tail.length + 1 = lengthByFirstByte b) ∧
  (∀ (b : Byte) (tail : List Byte), lengthByFirstByte b ≤ tail.length + 1 →
    ∃ i, decode (b :: tail) = .ok (i, tail.drop (lengthByFirstByte b - 1))) ∧
  (∀ (b : Byte) (tail : List Byte), tail.length + 1 < lengthByFirstByte b →
    decode (b :: tail) = .error (.truncated (lengthByFirstByte b)))

/-- Words written out bit by bit from the rules' encodings: at least one of each family. -/
def Obligations.WordsOfTheEncodings : Prop :=
  decode [0b01000001#8] = .ok (.ld_b_c, []) ∧
  decode [0b00110110#8, 0x7F#8] = .ok (.ld_mhl_n 0x7F#8, []) ∧
  decode [0b00001000#8, 0x00#8, 0xC1#8] = .ok (.ld_mnn_sp 0xC100#16, []) ∧
  decode [0b11110101#8] = .ok (.push_af, []) ∧
  decode [0b10001110#8] = .ok (.adc_a_mhl, []) ∧
  decode [0b11111110#8, 0x3C#8] = .ok (.cp_n 0x3C#8, []) ∧
  decode [0b00111001#8] = .ok (.add_hl_sp, []) ∧
  decode [0b11101000#8, 0xFE#8] = .ok (.add_sp_e 0xFE#8, []) ∧
  decode [0b00010111#8] = .ok (.rla, []) ∧
  decode [0b11001011#8, 0b00010001#8] = .ok (.rl_c, []) ∧
  decode [0b11001011#8, 0b01111100#8] = .ok (.bit_7_h, []) ∧
  decode [0b11001011#8, 0b11001011#8] = .ok (.set_1_e, []) ∧
  decode [0b00101000#8, 0xFE#8] = .ok (.jr_z_e 0xFE#8, []) ∧
  decode [0b11001101#8, 0x34#8, 0x12#8] = .ok (.call_nn 0x1234#16, []) ∧
  decode [0b11101111#8] = .ok (.rst_28, []) ∧
  decode [0b01110110#8] = .ok (.halt, []) ∧
  decode [0b11011101#8] = .ok (.undefined_dd, [])

/-! ## 8-bit loads (40_loads8) -/

/-- R400 to R402: LD r,r', LD r,n and LD r,(HL) write the destination register and nothing else. -/
def Obligations.LoadsIntoARegister : Prop :=
  (∀ (rd rs : Reg8) (s : State),
    exec (ldRegReg rd rs) s = .next { s.setReg rd (s.reg rs) with cycles := 4 } ∧
    encode (ldRegReg rd rs) = [BitVec.ofNat 8 (0x40 + 8 * rd.code + rs.code)]) ∧
  (∀ (rd : Reg8) (n : Byte) (s : State),
    exec (ldRegImm n rd) s = .next { s.setReg rd n with cycles := 8 } ∧
    encode (ldRegImm n rd) = [BitVec.ofNat 8 (0x06 + 8 * rd.code), n]) ∧
  (∀ (rd : Reg8) (s : State),
    exec (ldRegMem rd) s = .next { s.setReg rd (s.read s.hl) with cycles := 8 } ∧
    encode (ldRegMem rd) = [BitVec.ofNat 8 (0x46 + 8 * rd.code)])

/-- R405, R406, R409, R411, R413, R415, R416: the loads of A from memory; the two that step HL do so after the
read, modulo 2^16, with the old HL as the address. -/
def Obligations.LoadsIntoA : Prop :=
  ∀ (s : State) (nn : Word) (n : Byte),
    (exec .ld_a_mbc s = .next { s with a := s.read (s.b ++ s.c), cycles := 8 } ∧ encode .ld_a_mbc = [0x0A#8]) ∧
    (exec .ld_a_mde s = .next { s with a := s.read (s.d ++ s.e), cycles := 8 } ∧ encode .ld_a_mde = [0x1A#8]) ∧
    (exec (.ld_a_mnn nn) s = .next { s with a := s.read nn, cycles := 16 } ∧
      encode (.ld_a_mnn nn) = [0xFA#8, nn.extractLsb' 0 8, nn.extractLsb' 8 8]) ∧
    (exec (.ldh_a_mn n) s = .next { s with a := s.read (0xFF#8 ++ n), cycles := 12 } ∧
      encode (.ldh_a_mn n) = [0xF0#8, n]) ∧
    (exec .ld_a_mc s = .next { s with a := s.read (0xFF#8 ++ s.c), cycles := 8 } ∧ encode .ld_a_mc = [0xF2#8]) ∧
    (exec .ld_a_mhli s = .next { s with
        a := s.read (s.h ++ s.l)
        h := ((s.h ++ s.l : Word) + 1).extractLsb' 8 8
        l := ((s.h ++ s.l : Word) + 1).extractLsb' 0 8
        cycles := 8 } ∧ encode .ld_a_mhli = [0x2A#8]) ∧
    (exec .ld_a_mhld s = .next { s with
        a := s.read (s.h ++ s.l)
        h := ((s.h ++ s.l : Word) - 1).extractLsb' 8 8
        l := ((s.h ++ s.l : Word) - 1).extractLsb' 0 8
        cycles := 8 } ∧ encode .ld_a_mhld = [0x3A#8])

/-- R403, R404, R407, R408, R410, R412, R414, R417, R418, R441: the stores. Each is the bus write of its rule
(two for LD (nn),SP, low byte first), changes no register but HL where the rule steps it, and leaves every byte
it does not touch as it was. -/
def Obligations.Stores : Prop :=
  ∀ (s : State) (r : Reg8) (nn : Word) (n : Byte),
    (exec (ldMemReg r) s = .next { s.write (s.h ++ s.l) (s.reg r) with cycles := 8 } ∧
      encode (ldMemReg r) = [BitVec.ofNat 8 (0x70 + r.code)]) ∧
    (exec (.ld_mhl_n n) s = .next { s.write (s.h ++ s.l) n with cycles := 12 } ∧
      encode (.ld_mhl_n n) = [0x36#8, n]) ∧
    (exec .ld_mbc_a s = .next { s.write (s.b ++ s.c) s.a with cycles := 8 } ∧ encode .ld_mbc_a = [0x02#8]) ∧
    (exec .ld_mde_a s = .next { s.write (s.d ++ s.e) s.a with cycles := 8 } ∧ encode .ld_mde_a = [0x12#8]) ∧
    (exec (.ld_mnn_a nn) s = .next { s.write nn s.a with cycles := 16 } ∧
      encode (.ld_mnn_a nn) = [0xEA#8, nn.extractLsb' 0 8, nn.extractLsb' 8 8]) ∧
    (exec (.ldh_mn_a n) s = .next { s.write (0xFF#8 ++ n) s.a with cycles := 12 } ∧
      encode (.ldh_mn_a n) = [0xE0#8, n]) ∧
    (exec .ld_mc_a s = .next { s.write (0xFF#8 ++ s.c) s.a with cycles := 8 } ∧ encode .ld_mc_a = [0xE2#8]) ∧
    (exec .ld_mhli_a s = .next { s.write (s.h ++ s.l) s.a with
        h := ((s.h ++ s.l : Word) + 1).extractLsb' 8 8
        l := ((s.h ++ s.l : Word) + 1).extractLsb' 0 8
        cycles := 8 } ∧ encode .ld_mhli_a = [0x22#8]) ∧
    (exec .ld_mhld_a s = .next { s.write (s.h ++ s.l) s.a with
        h := ((s.h ++ s.l : Word) - 1).extractLsb' 8 8
        l := ((s.h ++ s.l : Word) - 1).extractLsb' 0 8
        cycles := 8 } ∧ encode .ld_mhld_a = [0x32#8]) ∧
    (exec (.ld_mnn_sp nn) s = .next { (s.write nn (s.sp.extractLsb' 0 8)).write (nn + 1) (s.sp.extractLsb' 8 8) with
        cycles := 20 } ∧
      encode (.ld_mnn_sp nn) = [0x08#8, nn.extractLsb' 0 8, nn.extractLsb' 8 8])

/-- What a store leaves alone (R201, R202): a bus write changes no field of the state but the memory and the
cartridge, and every address it does not touch reads as before; so does each storing instruction, at the
address its rule computes. Every other instruction, and a CALL cc not taken, leaves memory, cartridge and every byte
as they were. -/
def Obligations.StoresTouchOnlyTheirBytes : Prop :=
  (∀ (s : State) (addr : Word) (v : Byte), StoreFrame s (s.write addr v) addr ∧
    s.write addr v = { s with mem := (s.write addr v).mem, cart := (s.write addr v).cart }) ∧
  (∀ (s t : State) (r : Reg8), exec (ldMemReg r) s = .next t → StoreFrame s t (s.h ++ s.l)) ∧
  (∀ (s t : State) (n : Byte), exec (.ld_mhl_n n) s = .next t → StoreFrame s t (s.h ++ s.l)) ∧
  (∀ (s t : State), exec .ld_mbc_a s = .next t → StoreFrame s t (s.b ++ s.c)) ∧
  (∀ (s t : State), exec .ld_mde_a s = .next t → StoreFrame s t (s.d ++ s.e)) ∧
  (∀ (s t : State) (nn : Word), exec (.ld_mnn_a nn) s = .next t → StoreFrame s t nn) ∧
  (∀ (s t : State) (n : Byte), exec (.ldh_mn_a n) s = .next t → StoreFrame s t (0xFF#8 ++ n)) ∧
  (∀ (s t : State), exec .ld_mc_a s = .next t → StoreFrame s t (0xFF#8 ++ s.c)) ∧
  (∀ (s t : State), exec .ld_mhli_a s = .next t → StoreFrame s t (s.h ++ s.l)) ∧
  (∀ (s t : State), exec .ld_mhld_a s = .next t → StoreFrame s t (s.h ++ s.l)) ∧
  (∀ (s t : State) (nn : Word), exec (.ld_mnn_sp nn) s = .next t →
    StoreFrame2 s (s.write nn (s.sp.extractLsb' 0 8)) t nn (nn + 1)) ∧
  (∀ (s t : State) (q : Qq), exec (pushPair q) s = .next t →
    StoreFrame2 s (s.write (s.sp - 1) ((s.reg16 q.pair).extractLsb' 8 8)) t (s.sp - 1) (s.sp - 2)) ∧
  (∀ (s t : State), exec (incInstr .mhl) s = .next t ∨ exec (decInstr .mhl) s = .next t →
    StoreFrame s t (s.h ++ s.l)) ∧
  (∀ (s t : State) (op : ShiftOp), exec (shiftInstr op .mhl) s = .next t → StoreFrame s t (s.h ++ s.l)) ∧
  (∀ (s t : State) (b : Fin 8), exec (resInstr b .mhl) s = .next t ∨ exec (setInstr b .mhl) s = .next t →
    StoreFrame s t (s.h ++ s.l)) ∧
  (∀ (s t : State) (nn : Word), exec (.call_nn nn) s = .next t →
    StoreFrame2 s (s.write (s.sp - 1) (s.pc.extractLsb' 8 8)) t (s.sp - 1) (s.sp - 2)) ∧
  (∀ (s t : State) (nn : Word) (cc : Cond), cc.Holds s.f → exec (callCond nn cc) s = .next t →
    StoreFrame2 s (s.write (s.sp - 1) (s.pc.extractLsb' 8 8)) t (s.sp - 1) (s.sp - 2)) ∧
  (∀ (s t : State) (y : Fin 8), exec (rstInstr y) s = .next t →
    StoreFrame2 s (s.write (s.sp - 1) (s.pc.extractLsb' 8 8)) t (s.sp - 1) (s.sp - 2)) ∧
  (∀ (i : Instr) (s t : State), ¬ IsStore i → exec i s = .next t → SameMemory s t) ∧
  (∀ (s t : State) (nn : Word) (cc : Cond), ¬ cc.Holds s.f → exec (callCond nn cc) s = .next t → SameMemory s t)

/-! ## 16-bit loads and the stack (41_loads16) -/

/-- R440, R442, R445: the 16-bit loads into registers. The flags of LD HL,SP+e are those of the unsigned add of
e to SP's low byte. -/
def Obligations.LoadsIntoAPair : Prop :=
  (∀ (s : State) (nn : Word) (p : Dd),
    exec (ldPairImm nn p) s = .next { s.setReg16 p.pair nn with cycles := 12 } ∧
    encode (ldPairImm nn p) = [BitVec.ofNat 8 (0x01 + 16 * p.code), nn.extractLsb' 0 8, nn.extractLsb' 8 8]) ∧
  (∀ s : State, exec .ld_sp_hl s = .next { s with sp := s.h ++ s.l, cycles := 8 } ∧ encode .ld_sp_hl = [0xF9#8]) ∧
  (∀ (s : State) (e : Byte), ∃ t, exec (.ld_hl_sp_e e) s = .next t ∧
    t = { s with h := t.h, l := t.l, f := t.f, cycles := 12 } ∧
    ((t.h ++ t.l : Word).toNat : Int) = (s.sp.toNat + e.toInt) % 65536 ∧
    FlagsAre t False False (s.sp.toNat % 16 + e.toNat % 16 > 15) (s.sp.toNat % 256 + e.toNat > 255) ∧
    encode (.ld_hl_sp_e e) = [0xF8#8, e])

/-- R450, R452: PUSH writes the high byte below SP and the low byte below that, in this order, and lowers SP by
2. -/
def Obligations.PushPair : Prop :=
  ∀ (s : State) (q : Qq),
    exec (pushPair q) s = .next
      { (s.write (s.sp - 1) ((s.reg16 q.pair).extractLsb' 8 8)).write (s.sp - 2) ((s.reg16 q.pair).extractLsb' 0 8) with
        sp := s.sp - 2, cycles := 16 } ∧
    encode (pushPair q) = [BitVec.ofNat 8 (0xC5 + 16 * q.code)]

/-- R451, R453, R454: POP reads the low byte at SP and the high byte above it and raises SP by 2; F's low nibble
stays 0. -/
def Obligations.PopPair : Prop :=
  (∀ s : State, exec .pop_af s = .next { s with
      a := s.read (s.sp + 1), f := s.read s.sp &&& 0xF0#8, sp := s.sp + 2, cycles := 12 }) ∧
  (∀ s : State, exec .pop_bc s = .next { s with
      b := s.read (s.sp + 1), c := s.read s.sp, sp := s.sp + 2, cycles := 12 }) ∧
  (∀ s : State, exec .pop_de s = .next { s with
      d := s.read (s.sp + 1), e := s.read s.sp, sp := s.sp + 2, cycles := 12 }) ∧
  (∀ s : State, exec .pop_hl s = .next { s with
      h := s.read (s.sp + 1), l := s.read s.sp, sp := s.sp + 2, cycles := 12 }) ∧
  (∀ q : Qq, encode (popPair q) = [BitVec.ofNat 8 (0xC1 + 16 * q.code)])

/-! ## 8-bit arithmetic and logic (42_alu8) -/

/-- R500, R502 to R508: ADD and ADC of any operand. The sums are in natural numbers. -/
def Obligations.AddAndAddWithCarry : Prop :=
  ∀ (s : State) (x : Operand),
    (∃ t, exec (aluInstr .add x) s = .next t ∧
      t = { s with a := t.a, f := t.f, cycles := x.cost } ∧
      t.a.toNat = (s.a.toNat + (x.value s).toNat) % 256 ∧
      FlagsAre t (t.a = 0) False (s.a.toNat % 16 + (x.value s).toNat % 16 > 15)
        (s.a.toNat + (x.value s).toNat > 255) ∧
      encode (aluInstr .add x) = aluBytes .add x) ∧
    (∃ t, exec (aluInstr .adc x) s = .next t ∧
      t = { s with a := t.a, f := t.f, cycles := x.cost } ∧
      t.a.toNat = (s.a.toNat + (x.value s).toNat + (s.f.getLsbD 4).toNat) % 256 ∧
      FlagsAre t (t.a = 0) False (s.a.toNat % 16 + (x.value s).toNat % 16 + (s.f.getLsbD 4).toNat > 15)
        (s.a.toNat + (x.value s).toNat + (s.f.getLsbD 4).toNat > 255) ∧
      encode (aluInstr .adc x) = aluBytes .adc x)

/-- R501, R509 to R514, R524 to R526: SUB, SBC and CP of any operand; CP writes the flags alone. The differences
are in integers. -/
def Obligations.SubtractAndCompare : Prop :=
  ∀ (s : State) (x : Operand),
    (∃ t, exec (aluInstr .sub x) s = .next t ∧
      t = { s with a := t.a, f := t.f, cycles := x.cost } ∧
      (t.a.toNat : Int) = ((s.a.toNat : Int) - (x.value s).toNat) % 256 ∧
      FlagsAre t (t.a = 0) True (s.a.toNat % 16 < (x.value s).toNat % 16) (s.a.toNat < (x.value s).toNat) ∧
      encode (aluInstr .sub x) = aluBytes .sub x) ∧
    (∃ t, exec (aluInstr .sbc x) s = .next t ∧
      t = { s with a := t.a, f := t.f, cycles := x.cost } ∧
      (t.a.toNat : Int) = ((s.a.toNat : Int) - (x.value s).toNat - (s.f.getLsbD 4).toNat) % 256 ∧
      FlagsAre t (t.a = 0) True (s.a.toNat % 16 < (x.value s).toNat % 16 + (s.f.getLsbD 4).toNat)
        (s.a.toNat < (x.value s).toNat + (s.f.getLsbD 4).toNat) ∧
      encode (aluInstr .sbc x) = aluBytes .sbc x) ∧
    (∃ t, exec (aluInstr .cp x) s = .next t ∧
      t = { s with f := t.f, cycles := x.cost } ∧
      FlagsAre t (s.a = x.value s) True (s.a.toNat % 16 < (x.value s).toNat % 16) (s.a.toNat < (x.value s).toNat) ∧
      encode (aluInstr .cp x) = aluBytes .cp x)

/-- R515 to R523: AND, XOR and OR of any operand, bit by bit. -/
def Obligations.Logic : Prop :=
  ∀ (s : State) (x : Operand),
    (∃ t, exec (aluInstr .and x) s = .next t ∧
      t = { s with a := t.a, f := t.f, cycles := x.cost } ∧
      (∀ k, t.a.getLsbD k = (s.a.getLsbD k && (x.value s).getLsbD k)) ∧
      FlagsAre t (t.a = 0) False True False ∧
      encode (aluInstr .and x) = aluBytes .and x) ∧
    (∃ t, exec (aluInstr .xor x) s = .next t ∧
      t = { s with a := t.a, f := t.f, cycles := x.cost } ∧
      (∀ k, t.a.getLsbD k = (s.a.getLsbD k != (x.value s).getLsbD k)) ∧
      FlagsAre t (t.a = 0) False False False ∧
      encode (aluInstr .xor x) = aluBytes .xor x) ∧
    (∃ t, exec (aluInstr .or x) s = .next t ∧
      t = { s with a := t.a, f := t.f, cycles := x.cost } ∧
      (∀ k, t.a.getLsbD k = (s.a.getLsbD k || (x.value s).getLsbD k)) ∧
      FlagsAre t (t.a = 0) False False False ∧
      encode (aluInstr .or x) = aluBytes .or x)

/-- R527 to R530: INC and DEC of a register or of the byte at HL; the result modulo 256, the carry flag as it was,
and INC then DEC of a register gives the register back. -/
def Obligations.IncrementAndDecrement : Prop :=
  (∀ (s : State) (x : Target), ∃ t, exec (incInstr x) s = .next t ∧
    t = { x.put s (BitVec.ofNat 8 ((x.value s).toNat + 1)) with f := t.f, cycles := x.cost 4 12 } ∧
    FlagsAre t ((x.value s).toNat = 255) False ((x.value s).toNat % 16 = 15) (s.f.getLsbD 4 = true) ∧
    encode (incInstr x) = [BitVec.ofNat 8 (0x04 + 8 * x.code)]) ∧
  (∀ (s : State) (x : Target), ∃ t, exec (decInstr x) s = .next t ∧
    t = { x.put s (BitVec.ofNat 8 ((x.value s).toNat + 255)) with f := t.f, cycles := x.cost 4 12 } ∧
    FlagsAre t ((x.value s).toNat = 1) True ((x.value s).toNat % 16 = 0) (s.f.getLsbD 4 = true) ∧
    encode (decInstr x) = [BitVec.ofNat 8 (0x05 + 8 * x.code)]) ∧
  (∀ (s : State) (r : Reg8), ∃ t u, exec (incInstr (.reg r)) s = .next t ∧ exec (decInstr (.reg r)) t = .next u ∧
    u = { s with f := u.f, cycles := 4 })

/-- R531 to R534: DAA, CPL, SCF, CCF. DAA's adjustment is written out from the rule; a flag the rule leaves alone
is the one before. -/
def Obligations.AccumulatorAdjustAndFlags : Prop :=
  ∀ s : State,
    (∃ t, exec .daa s = .next t ∧
      t = { s with a := t.a, f := t.f, cycles := 4 } ∧
      (s.f.getLsbD 6 = false → t.a.toNat = (s.a.toNat +
        (if s.f.getLsbD 4 = true ∨ s.a.toNat > 0x99 then 0x60 else 0) +
        (if s.f.getLsbD 5 = true ∨ s.a.toNat % 16 > 9 then 6 else 0)) % 256) ∧
      (s.f.getLsbD 6 = true → (t.a.toNat : Int) = ((s.a.toNat : Int) -
        (if s.f.getLsbD 4 = true then 0x60 else 0) - (if s.f.getLsbD 5 = true then 6 else 0)) % 256) ∧
      FlagsAre t (t.a = 0) (s.f.getLsbD 6 = true) False
        (s.f.getLsbD 4 = true ∨ (s.f.getLsbD 6 = false ∧ s.a.toNat > 0x99)) ∧
      encode .daa = [0x27#8]) ∧
    (∃ t, exec .cpl s = .next t ∧
      t = { s with a := t.a, f := t.f, cycles := 4 } ∧ t.a.toNat = 255 - s.a.toNat ∧
      FlagsAre t (s.f.getLsbD 7 = true) True True (s.f.getLsbD 4 = true) ∧ encode .cpl = [0x2F#8]) ∧
    (∃ t, exec .scf s = .next t ∧
      t = { s with f := t.f, cycles := 4 } ∧
      FlagsAre t (s.f.getLsbD 7 = true) False False True ∧ encode .scf = [0x37#8]) ∧
    (∃ t, exec .ccf s = .next t ∧
      t = { s with f := t.f, cycles := 4 } ∧
      FlagsAre t (s.f.getLsbD 7 = true) False False (s.f.getLsbD 4 = false) ∧ encode .ccf = [0x3F#8])

/-- What DAA is for (R531's title, D18): after ADD A,r of two numbers below 100 held as packed decimal digits, DAA
leaves the last two digits of their sum in A, and C says whether the sum reached 100. -/
def Obligations.DecimalAdditionWithDaa : Prop :=
  ∀ (s t u : State) (r : Reg8) (m n : Nat), m < 100 → n < 100 →
    s.a.toNat = 16 * (m / 10) + m % 10 → (s.reg r).toNat = 16 * (n / 10) + n % 10 →
    exec (aluInstr .add (.reg r)) s = .next t → exec .daa t = .next u →
    u.a.toNat = 16 * ((m + n) % 100 / 10) + (m + n) % 10 ∧ (u.f.getLsbD 4 = true ↔ 100 ≤ m + n)

/-! ## 16-bit arithmetic (43_alu16) -/

/-- R550 to R553: ADD HL,rr, ADD SP,e, INC rr, DEC rr. -/
def Obligations.WideArithmetic : Prop :=
  (∀ (s : State) (p : Dd), ∃ t, exec (addHlPair p) s = .next t ∧
    t = { s with h := t.h, l := t.l, f := t.f, cycles := 8 } ∧
    (t.h ++ t.l : Word).toNat = ((s.h ++ s.l : Word).toNat + (s.reg16 p.pair).toNat) % 65536 ∧
    FlagsAre t (s.f.getLsbD 7 = true) False
      ((s.h ++ s.l : Word).toNat % 4096 + (s.reg16 p.pair).toNat % 4096 > 4095)
      ((s.h ++ s.l : Word).toNat + (s.reg16 p.pair).toNat > 65535) ∧
    encode (addHlPair p) = [BitVec.ofNat 8 (0x09 + 16 * p.code)]) ∧
  (∀ (s : State) (e : Byte), ∃ t, exec (.add_sp_e e) s = .next t ∧
    t = { s with sp := t.sp, f := t.f, cycles := 16 } ∧
    (t.sp.toNat : Int) = (s.sp.toNat + e.toInt) % 65536 ∧
    FlagsAre t False False (s.sp.toNat % 16 + e.toNat % 16 > 15) (s.sp.toNat % 256 + e.toNat > 255) ∧
    encode (.add_sp_e e) = [0xE8#8, e]) ∧
  (∀ (s : State) (p : Dd),
    exec (incPair p) s = .next { s.setReg16 p.pair (s.reg16 p.pair + 1) with cycles := 8 } ∧
    encode (incPair p) = [BitVec.ofNat 8 (0x03 + 16 * p.code)]) ∧
  (∀ (s : State) (p : Dd),
    exec (decPair p) s = .next { s.setReg16 p.pair (s.reg16 p.pair - 1) with cycles := 8 } ∧
    encode (decPair p) = [BitVec.ofNat 8 (0x0B + 16 * p.code)])

/-! ## Rotates, shifts and bits (44_rotate_shift_bit) -/

/-- R600 to R603: the accumulator rotates clear Z, N and H, whatever the result. -/
def Obligations.AccumulatorRotates : Prop :=
  ∀ s : State,
    (∃ t, exec .rlca s = .next t ∧ t = { s with a := t.a, f := t.f, cycles := 4 } ∧
      t.a.toNat = (2 * s.a.toNat) % 256 + s.a.toNat / 128 ∧
      FlagsAre t False False False (s.a.toNat ≥ 128) ∧ encode .rlca = [0x07#8]) ∧
    (∃ t, exec .rrca s = .next t ∧ t = { s with a := t.a, f := t.f, cycles := 4 } ∧
      t.a.toNat = s.a.toNat / 2 + 128 * (s.a.toNat % 2) ∧
      FlagsAre t False False False (s.a.toNat % 2 = 1) ∧ encode .rrca = [0x0F#8]) ∧
    (∃ t, exec .rla s = .next t ∧ t = { s with a := t.a, f := t.f, cycles := 4 } ∧
      t.a.toNat = (2 * s.a.toNat) % 256 + (s.f.getLsbD 4).toNat ∧
      FlagsAre t False False False (s.a.toNat ≥ 128) ∧ encode .rla = [0x17#8]) ∧
    (∃ t, exec .rra s = .next t ∧ t = { s with a := t.a, f := t.f, cycles := 4 } ∧
      t.a.toNat = s.a.toNat / 2 + 128 * (s.f.getLsbD 4).toNat ∧
      FlagsAre t False False False (s.a.toNat % 2 = 1) ∧ encode .rra = [0x1F#8])

/-- R604, R605, R608, R609, R612, R613, R616, R617: RLC, RL, SLA and SWAP of a register or of the byte at HL. -/
def Obligations.LeftShiftsAndSwap : Prop :=
  ∀ (s : State) (x : Target),
    (∃ t, exec (shiftInstr .rlc x) s = .next t ∧
      t = { x.put s (BitVec.ofNat 8 (2 * (x.value s).toNat + (x.value s).toNat / 128)) with
        f := t.f, cycles := x.cost 8 16 } ∧
      FlagsAre t ((x.value s).toNat = 0) False False ((x.value s).toNat ≥ 128) ∧
      encode (shiftInstr .rlc x) = [0xCB#8, BitVec.ofNat 8 x.code]) ∧
    (∃ t, exec (shiftInstr .rl x) s = .next t ∧
      t = { x.put s (BitVec.ofNat 8 (2 * (x.value s).toNat + (s.f.getLsbD 4).toNat)) with
        f := t.f, cycles := x.cost 8 16 } ∧
      FlagsAre t ((x.value s).toNat % 128 = 0 ∧ s.f.getLsbD 4 = false) False False ((x.value s).toNat ≥ 128) ∧
      encode (shiftInstr .rl x) = [0xCB#8, BitVec.ofNat 8 (0x10 + x.code)]) ∧
    (∃ t, exec (shiftInstr .sla x) s = .next t ∧
      t = { x.put s (BitVec.ofNat 8 (2 * (x.value s).toNat)) with f := t.f, cycles := x.cost 8 16 } ∧
      FlagsAre t ((x.value s).toNat % 128 = 0) False False ((x.value s).toNat ≥ 128) ∧
      encode (shiftInstr .sla x) = [0xCB#8, BitVec.ofNat 8 (0x20 + x.code)]) ∧
    (∃ t, exec (shiftInstr .swap x) s = .next t ∧
      t = { x.put s (BitVec.ofNat 8 (16 * ((x.value s).toNat % 16) + (x.value s).toNat / 16)) with
        f := t.f, cycles := x.cost 8 16 } ∧
      FlagsAre t ((x.value s).toNat = 0) False False False ∧
      encode (shiftInstr .swap x) = [0xCB#8, BitVec.ofNat 8 (0x30 + x.code)])

/-- R606, R607, R610, R611, R614, R615, R618, R619: RRC, RR, SRA and SRL of a register or of the byte at HL. -/
def Obligations.RightShifts : Prop :=
  ∀ (s : State) (x : Target),
    (∃ t, exec (shiftInstr .rrc x) s = .next t ∧
      t = { x.put s (BitVec.ofNat 8 ((x.value s).toNat / 2 + 128 * ((x.value s).toNat % 2))) with
        f := t.f, cycles := x.cost 8 16 } ∧
      FlagsAre t ((x.value s).toNat = 0) False False ((x.value s).toNat % 2 = 1) ∧
      encode (shiftInstr .rrc x) = [0xCB#8, BitVec.ofNat 8 (0x08 + x.code)]) ∧
    (∃ t, exec (shiftInstr .rr x) s = .next t ∧
      t = { x.put s (BitVec.ofNat 8 ((x.value s).toNat / 2 + 128 * (s.f.getLsbD 4).toNat)) with
        f := t.f, cycles := x.cost 8 16 } ∧
      FlagsAre t ((x.value s).toNat ≤ 1 ∧ s.f.getLsbD 4 = false) False False ((x.value s).toNat % 2 = 1) ∧
      encode (shiftInstr .rr x) = [0xCB#8, BitVec.ofNat 8 (0x18 + x.code)]) ∧
    (∃ t, exec (shiftInstr .sra x) s = .next t ∧
      t = { x.put s (BitVec.ofNat 8 ((x.value s).toNat / 2 + 128 * ((x.value s).toNat / 128))) with
        f := t.f, cycles := x.cost 8 16 } ∧
      FlagsAre t ((x.value s).toNat ≤ 1) False False ((x.value s).toNat % 2 = 1) ∧
      encode (shiftInstr .sra x) = [0xCB#8, BitVec.ofNat 8 (0x28 + x.code)]) ∧
    (∃ t, exec (shiftInstr .srl x) s = .next t ∧
      t = { x.put s (BitVec.ofNat 8 ((x.value s).toNat / 2)) with f := t.f, cycles := x.cost 8 16 } ∧
      FlagsAre t ((x.value s).toNat ≤ 1) False False ((x.value s).toNat % 2 = 1) ∧
      encode (shiftInstr .srl x) = [0xCB#8, BitVec.ofNat 8 (0x38 + x.code)])

/-- R620, R621: BIT reads its operand and writes flags alone. -/
def Obligations.BitTest : Prop :=
  ∀ (s : State) (b : Fin 8) (x : Target), ∃ t, exec (bitInstr b x) s = .next t ∧
    t = { s with f := t.f, cycles := x.cost 8 12 } ∧
    FlagsAre t ((x.value s).getLsbD b = false) False True (s.f.getLsbD 4 = true) ∧
    encode (bitInstr b x) = [0xCB#8, BitVec.ofNat 8 (0x40 + 8 * b.val + x.code)]

/-- R622 to R625: RES and SET change the one bit of the operand, and no flag. -/
def Obligations.BitResetAndSet : Prop :=
  ∀ (s : State) (b : Fin 8) (x : Target),
    (∃ v : Byte, (∀ k, v.getLsbD k = ((x.value s).getLsbD k && k != b.val)) ∧
      exec (resInstr b x) s = .next { x.put s v with cycles := x.cost 8 16 } ∧
      encode (resInstr b x) = [0xCB#8, BitVec.ofNat 8 (0x80 + 8 * b.val + x.code)]) ∧
    (∃ v : Byte, (∀ k, v.getLsbD k = ((x.value s).getLsbD k || k == b.val)) ∧
      exec (setInstr b x) s = .next { x.put s v with cycles := x.cost 8 16 } ∧
      encode (setInstr b x) = [0xCB#8, BitVec.ofNat 8 (0xC0 + 8 * b.val + x.code)])

/-! ## Control transfer (45_control) -/

/-- R650 to R654: the jumps. A conditional one that is not taken changes nothing but its count. -/
def Obligations.Jumps : Prop :=
  ∀ (s : State) (nn : Word) (e : Byte) (cc : Cond),
    (exec (.jp_nn nn) s = .next { s with pc := nn, cycles := 16 } ∧
      encode (.jp_nn nn) = [0xC3#8, nn.extractLsb' 0 8, nn.extractLsb' 8 8]) ∧
    (cc.Holds s.f → exec (jpCond nn cc) s = .next { s with pc := nn, cycles := 16 }) ∧
    (¬ cc.Holds s.f → exec (jpCond nn cc) s = .next { s with cycles := 12 }) ∧
    encode (jpCond nn cc) = [BitVec.ofNat 8 (0xC2 + 8 * cc.code), nn.extractLsb' 0 8, nn.extractLsb' 8 8] ∧
    (exec .jp_hl s = .next { s with pc := s.h ++ s.l, cycles := 4 } ∧ encode .jp_hl = [0xE9#8]) ∧
    (∃ t, exec (.jr_e e) s = .next t ∧ t = { s with pc := t.pc, cycles := 12 } ∧
      (t.pc.toNat : Int) = (s.pc.toNat + e.toInt) % 65536 ∧ encode (.jr_e e) = [0x18#8, e]) ∧
    (cc.Holds s.f → ∃ t, exec (jrCond e cc) s = .next t ∧ t = { s with pc := t.pc, cycles := 12 } ∧
      (t.pc.toNat : Int) = (s.pc.toNat + e.toInt) % 65536) ∧
    (¬ cc.Holds s.f → exec (jrCond e cc) s = .next { s with cycles := 8 }) ∧
    encode (jrCond e cc) = [BitVec.ofNat 8 (0x20 + 8 * cc.code), e]

/-- R660, R661, R668: the calls push the pc, which is past the instruction, and go to the target. -/
def Obligations.CallsAndRestarts : Prop :=
  ∀ (s : State) (nn : Word) (cc : Cond) (y : Fin 8),
    (exec (.call_nn nn) s = .next
      { (s.write (s.sp - 1) (s.pc.extractLsb' 8 8)).write (s.sp - 2) (s.pc.extractLsb' 0 8) with
        sp := s.sp - 2, pc := nn, cycles := 24 } ∧
      encode (.call_nn nn) = [0xCD#8, nn.extractLsb' 0 8, nn.extractLsb' 8 8]) ∧
    (cc.Holds s.f → exec (callCond nn cc) s = .next
      { (s.write (s.sp - 1) (s.pc.extractLsb' 8 8)).write (s.sp - 2) (s.pc.extractLsb' 0 8) with
        sp := s.sp - 2, pc := nn, cycles := 24 }) ∧
    (¬ cc.Holds s.f → exec (callCond nn cc) s = .next { s with cycles := 12 }) ∧
    encode (callCond nn cc) = [BitVec.ofNat 8 (0xC4 + 8 * cc.code), nn.extractLsb' 0 8, nn.extractLsb' 8 8] ∧
    (exec (rstInstr y) s = .next
      { (s.write (s.sp - 1) (s.pc.extractLsb' 8 8)).write (s.sp - 2) (s.pc.extractLsb' 0 8) with
        sp := s.sp - 2, pc := BitVec.ofNat 16 (8 * y.val), cycles := 16 } ∧
      encode (rstInstr y) = [BitVec.ofNat 8 (0xC7 + 8 * y.val)])

/-- R665 to R667: the returns take the pc from the stack; RETI sets IME at once. -/
def Obligations.Returns : Prop :=
  ∀ (s : State) (cc : Cond),
    (exec .ret s = .next { s with pc := s.read (s.sp + 1) ++ s.read s.sp, sp := s.sp + 2, cycles := 16 } ∧
      encode .ret = [0xC9#8]) ∧
    (cc.Holds s.f → exec (retCond cc) s = .next
      { s with pc := s.read (s.sp + 1) ++ s.read s.sp, sp := s.sp + 2, cycles := 20 }) ∧
    (¬ cc.Holds s.f → exec (retCond cc) s = .next { s with cycles := 8 }) ∧
    encode (retCond cc) = [BitVec.ofNat 8 (0xC0 + 8 * cc.code)] ∧
    (exec .reti s = .next { s with
        pc := s.read (s.sp + 1) ++ s.read s.sp, sp := s.sp + 2, ime := true, eiPending := false, cycles := 16 } ∧
      encode .reti = [0xD9#8])

/-! ## System and control instructions (46_system) -/

/-- R700, R701, R703, R705: NOP and the 11 undefined opcodes change nothing but the count; HALT halts, or with IME
= 0 and an interrupt pending arms the halt bug under HALT_BUG; STOP stops, its operand ignored. -/
def Obligations.NopUndefinedHaltStop : Prop :=
  ∀ (s : State) (x : Byte),
    (exec .nop s = .next { s with cycles := 4 } ∧ encode .nop = [0x00#8]) ∧
    (∀ u ∈ undefinedOpcodes, exec u.1 s = .next { s with cycles := 4 } ∧ encode u.1 = [u.2]) ∧
    undefinedOpcodes.map Prod.snd =
      [0xD3#8, 0xDB#8, 0xDD#8, 0xE3#8, 0xE4#8, 0xEB#8, 0xEC#8, 0xED#8, 0xF4#8, 0xFC#8, 0xFD#8] ∧
    (s.ime = false → s.pending ≠ 0 →
      exec .halt s = .next { s with haltBug := s.haltBug || Config.haltBug, cycles := 4 }) ∧
    (¬ (s.ime = false ∧ s.pending ≠ 0) → exec .halt s = .next { s with halted := true, cycles := 4 }) ∧
    encode .halt = [0x76#8] ∧
    (exec (.stop x) s = .next { s with stopped := true, cycles := 4 } ∧ encode (.stop x) = [0x10#8, x])

/-- R706, R707 with EI_DELAY = 1, the model's choice out of the values R8 gives (log entry 7): DI clears IME and a pending
EI at once; EI only makes itself pending, and the step of the instruction after it, if that leaves it pending, sets IME
when it ends. -/
def Obligations.DisableAndEnableInterrupts : Prop :=
  (∀ s : State, exec .di s = .next { s with ime := false, eiPending := false, cycles := 4 } ∧ encode .di = [0xF3#8]) ∧
  (∀ s : State, exec .ei s = .next { s with eiPending := true, cycles := 4 } ∧ encode .ei = [0xFB#8]) ∧
  (∀ (s t : State), exec s.fetchInstr.1 s.fetchInstr.2 = .next t → s.eiPending = true → t.eiPending = true →
    s.runInstr = .next { t with ime := true, eiPending := false }) ∧
  (∀ (s t : State), exec s.fetchInstr.1 s.fetchInstr.2 = .next t → (s.eiPending = false ∨ t.eiPending = false) →
    s.runInstr = .next t)

/-! ## The stack as a whole -/

/-- R450, R451, R230: wherever the two bytes below SP are the machine's own storage, the POP of a pair right after its
PUSH gives every register back (F's low nibble being 0, R103), and the RET of a CALL's return address comes back
to the byte after the CALL with every register as it was. -/
def Obligations.StackRoundTrips : Prop :=
  ∀ s : State, s.memOk → s.f &&& 0x0F#8 = 0 → IsRam (s.sp - 1) → IsRam (s.sp - 2) →
    (∀ (q : Qq) (m t : State), exec (pushPair q) s = .next m → exec (popPair q) m = .next t →
      t = { s with mem := m.mem, cycles := 12 }) ∧
    (∀ (nn : Word) (m t : State), exec (.call_nn nn) s = .next m → exec .ret { m with pc := nn + 1 } = .next t →
      t = { s with mem := m.mem, cycles := 16 })

/-! ## The step and the interrupts (60_exceptions) -/

/-- R300, R301, R800 (d), R707, R901: where nothing else comes first (not stopped, no interrupt to dispatch, not halted
or waking), a step fetches the instruction the bytes at the pc decode to and runs `exec` on it with the pc past
its bytes (one less after a halt bug), then applies the EI delay, advances the PPU by its count, and counts. That one
step is one pass of the driver's loop is the model's reading (log entry 2); the draws are its own (log entry 4). -/
def Obligations.StepRunsDecodedInstruction : Prop :=
  ∀ (s : State) (i : Instr) (rest : List Byte),
    s.stopped = false → (s.ime = true → s.pending = 0) → (s.halted = true → s.pending ≠ 0) →
    decode (bytesToFetch s) = .ok (i, rest) →
    step s = thenState (exec i (afterFetch s i)) (endOfPass s.eiPending)

/-- R110, R812, R800 (a) (c): a stopped step, and a halted one with nothing pending, return 4 and change no state; with IME
= 0 and something pending a halted CPU wakes and runs its instruction in the same step; with IME = 1 it
dispatches and is no longer halted. -/
def Obligations.IdleSlots : Prop :=
  ∀ s : State,
    (s.stopped = true → s.cpuStep = .next { s with cycles := 4 }) ∧
    (s.stopped = false → s.halted = true →
      (s.pending = 0 → s.cpuStep = .next { s with cycles := 4 }) ∧
      (s.ime = false → s.pending ≠ 0 → s.cpuStep = { s with halted := false }.runInstr) ∧
      (s.ime = true → s.pending ≠ 0 → ∃ t, s.cpuStep = .next t ∧ t.halted = false ∧ t.cycles = 20)) ∧
    (s.io 0x7F = 0 → s.pending = 0)

/-- R810, R811, R813, R815: interrupt i is pending when its bits of IE and IF are set, and when IME = 1 a step of a CPU
that is not stopped dispatches the lowest: acknowledge in IF, clear IME, push the return address (the HALT's
own after a halt bug), go to 0x0040 + 8 * i, 20 cycles; with IME = 0 or nothing pending it dispatches nothing. -/
def Obligations.InterruptDispatch : Prop :=
  (∀ (s : State) (j : Nat), s.pending.getLsbD j =
    (decide (j < 5) && (s.read 0xFFFF#16).getLsbD j && (s.read 0xFF0F#16).getLsbD j)) ∧
  (∀ (s : State) (i : Fin 5), s.stopped = false → s.ime = true → s.pending.getLsbD i = true →
    (∀ j, j < i.val → s.pending.getLsbD j = false) →
    s.cpuStep = .next
      { ((s.write 0xFF0F#16 (s.read 0xFF0F#16 &&& ~~~(0x01#8 <<< i.val))).write (s.sp - 1)
          ((returnAddress s).extractLsb' 8 8)).write (s.sp - 2) ((returnAddress s).extractLsb' 0 8) with
        sp := s.sp - 2
        pc := BitVec.ofNat 16 (0x40 + 8 * i.val)
        ime := false
        eiPending := false
        halted := false
        haltBug := false
        cycles := 20 }) ∧
  (∀ (s : State), s.stopped = false → s.halted = false → (s.ime = false ∨ s.pending = 0) → s.cpuStep = s.runInstr)

/-- R801: every CPU step's count is one of 4, 8, 12, 16, 20, 24. -/
def Obligations.StepCounts : Prop :=
  ∀ s t : State, s.cpuStep = .next t → t.cycles ∈ [4, 8, 12, 16, 20, 24]

/-- R830: no instruction and no step ends in a fault or a refusal, in any state. -/
def Obligations.NothingFaults : Prop :=
  (∀ (i : Instr) (s : State), ∃ t, exec i s = .next t) ∧ (∀ s : State, ∃ t, step s = .next t)

/-- R106 with EI_DELAY = 1, the model's choice out of the values R8 gives (log entry 7; with 0, EI itself would set IME): the
only instructions that change IME are DI and RETI (EI makes itself pending), the only other ways it changes are the
end of the EI delay (to 1) and a dispatch (to 0). -/
def Obligations.WhatWritesIme : Prop :=
  (∀ (i : Instr) (s t : State), exec i s = .next t → t.ime ≠ s.ime → i = .di ∨ i = .reti) ∧
  (∀ s t : State, s.cpuStep = .next t → s.ime = false → t.ime = true →
    s.stopped = false ∧ (s.eiPending = true ∨ s.fetchInstr.1 = .reti)) ∧
  (∀ s t : State, s.cpuStep = .next t → s.ime = true → t.ime = false →
    s.stopped = false ∧ (s.pending ≠ 0 ∨ s.fetchInstr.1 = .di))

/-- R103: a write of AF stores F's low nibble as 0, and no instruction and no step leaves anything else there. -/
def Obligations.FlagLowNibbleIsZero : Prop :=
  (∀ (s : State) (v : Word), (s.setReg16 .af v).f = v.extractLsb' 0 8 &&& 0xF0#8) ∧
  (∀ (i : Instr) (s t : State), exec i s = .next t → s.f &&& 0x0F#8 = 0 → t.f &&& 0x0F#8 = 0) ∧
  (∀ s t : State, step s = .next t → s.f &&& 0x0F#8 = 0 →
    t.f &&& 0x0F#8 = 0 ∧ t.reg16 .af &&& 0x000F#16 = 0)

/-! ## Invariants -/

/-- The state after reset meets the invariant of `StepKeepsInvariant`, the model's own canonical forms of memory and frame
buffer (log entries 6 and 13) among it. -/
def Obligations.ResetMeetsInvariant : Prop := State.reset.Inv

/-- Every step from a legal state gives a legal state: F's low nibble 0 (R103), memory canonical and within the map
(R202), the PPU's counters in their ranges (R854), banks never 0 and cartridge RAM within its size (R265), the
frame buffer's lines 160 pixels each (R877), the frame budget kept (R143). The canonical forms are the model's own (log
entries 6 and 13). -/
def Obligations.StepKeepsInvariant : Prop := ∀ s t : State, s.Inv → step s = .next t → t.Inv

/-- So does every operation of the host (R900 to R909). -/
def Obligations.HostOperationsKeepInvariant : Prop :=
  construct.Inv ∧
  (∀ s : State, s.Inv → s.resetMachine.Inv) ∧
  (∀ (s t : State) (bytes : List Byte), s.Inv → s.loadRom bytes = .ok t → t.Inv) ∧
  (∀ (s : State) (code : Nat) (pressed : Bool), s.Inv → (s.setInput code pressed).Inv) ∧
  (∀ s t : State, s.Inv → s.runFrame = .next t → t.Inv) ∧
  (∀ s t u : State, s.Inv → t.Inv → s.setState t.getState = .ok u → u.Inv)

/-! ## The bus (20_memory) -/

/-- R202, row by row: which byte each address reads and writes. Every address is in one of the ranges. -/
def Obligations.AddressMap : Prop :=
  ∀ (s : State) (a : Word) (v : Byte),
    (a.toNat < 0x8000 → s.read a = s.readCartRom a.toNat ∧
      s.write a v = { s with cart := s.cart.map fun c => c.writeRom a.toNat v }) ∧
    (0x8000 ≤ a.toNat ∧ a.toNat < 0xA000 → s.read a = s.mem.read a.toNat ∧
      s.write a v = { s with mem := s.mem.write a.toNat v }) ∧
    (0xA000 ≤ a.toNat ∧ a.toNat < 0xC000 → s.read a = s.readCartRam s.draws a ∧
      s.write a v = { s with cart := s.cart.map fun c => c.writeRam a.toNat v }) ∧
    (0xC000 ≤ a.toNat ∧ a.toNat < 0xE000 → s.read a = s.mem.read a.toNat ∧
      s.write a v = { s with mem := s.mem.write a.toNat v }) ∧
    (0xFE00 ≤ a.toNat ∧ a.toNat < 0xFEA0 → s.read a = s.mem.read a.toNat ∧
      s.write a v = { s with mem := s.mem.write a.toNat v }) ∧
    (0xFF01 ≤ a.toNat ∧ a.toNat < 0xFFFF → s.read a = s.mem.read a.toNat ∧
      s.write a v = { s with mem := s.mem.write a.toNat v }) ∧
    (0xE000 ≤ a.toNat ∧ a.toNat < 0xFE00 → s.read a = s.mem.read (a.toNat - 0x2000) ∧
      s.write a v = { s with mem := s.mem.write (a.toNat - 0x2000) v }) ∧
    (0xFEA0 ≤ a.toNat ∧ a.toNat < 0xFF00 → s.read a = 0xFF#8 ∧ s.write a v = s) ∧
    (a.toNat = 0xFF00 → s.read a = s.buttons ∧ s.write a v = { s with mem := s.mem.write 0xFF00 v }) ∧
    (a.toNat = 0xFFFF → s.read a = s.mem.read 0xFF7F ∧ s.write a v = { s with mem := s.mem.write 0xFF7F v })

/-- R208, R210, R211, R212, R216: the echo is the byte 0x2000 below; the unusable range reads 0xFF and drops writes;
0xFF00 reads the buttons and its write is never read; 0xFFFF and 0xFF7F are one byte; without a cartridge its
space reads 0xFF and drops writes. -/
def Obligations.SpecialRanges : Prop :=
  ∀ (s : State) (a : Word) (v : Byte),
    (0xE000 ≤ a.toNat ∧ a.toNat < 0xFE00 →
      s.read a = s.read (a - 0x2000#16) ∧ s.write a v = s.write (a - 0x2000#16) v) ∧
    (0xDE00 ≤ a.toNat ∧ a.toNat < 0xE000 → ∀ b, b ≠ a → (s.write a v).read b = s.read b) ∧
    (0xFEA0 ≤ a.toNat ∧ a.toNat < 0xFF00 → s.read a = 0xFF#8 ∧ s.write a v = s) ∧
    (s.read 0xFF00#16 = s.buttons ∧ s.write 0xFF00#16 v = s.setIo 0x00 v ∧
      ∀ b, (s.write 0xFF00#16 v).read b = s.read b) ∧
    (∀ k, 0 < k → k < 0x80 → s.read (BitVec.ofNat 16 (0xFF00 + k)) = s.io k ∧
      s.write (BitVec.ofNat 16 (0xFF00 + k)) v = s.setIo k v) ∧
    (s.read 0xFFFF#16 = s.read 0xFF7F#16 ∧ s.write 0xFFFF#16 v = s.write 0xFF7F#16 v ∧
      s.read 0xFFFF#16 = s.io 0x7F ∧ s.pending = s.read 0xFFFF#16 &&& s.read 0xFF0F#16 &&& 0x1F#8) ∧
    (s.cart = none → a.toNat < 0x8000 ∨ (0xA000 ≤ a.toNat ∧ a.toNat < 0xC000) →
      s.read a = 0xFF#8 ∧ s.write a v = s)

/-- R230: every read sees the latest write to the same byte, through the aliases, and only that byte changed. -/
def Obligations.ReadsSeeTheLatestWrite : Prop :=
  ∀ (s : State) (a b : Word) (v : Byte), s.memOk → IsRam a →
    (IsRam b → cellOf b = cellOf a → (s.write a v).read b = v) ∧
    (¬ (IsRam b ∧ cellOf b = cellOf a) → (s.write a v).read b = s.read b)

/-- R204, R271: a write below 0x8000 is a command to the cartridge's controller and changes no memory and no byte of the
image or header, nothing at all on a ROM-only cartridge; and no step changes an image or a header. -/
def Obligations.RomNeverChanges : Prop :=
  (∀ (s : State) (a : Word) (v : Byte), a.toNat < 0x8000 →
    s.write a v = { s with cart := s.cart.map fun c => c.writeRom a.toNat v } ∧
    (s.write a v).cart.map Cart.identity = s.cart.map Cart.identity ∧
    (∀ c, s.cart = some c → c.ctrl = .romOnly → s.write a v = s)) ∧
  (∀ s t : State, step s = .next t → t.cart.map Cart.identity = s.cart.map Cart.identity)

/-! ## The cartridge (21_cartridge) -/

/-- R275, R280, R281, R282: the ROM-only cartridge and MBC2. That a ROM-only cartridge has its RAM whatever its type
code, 0x00 among them, is the model's reading of R275 (log entry 10). -/
def Obligations.RomOnlyAndMbc2 : Prop :=
  (∀ (s : State) (c : Cart) (a : Word) (v : Byte), s.cart = some c → c.ctrl = .romOnly →
    (a.toNat < 0x8000 → s.read a = romByteAt c (a.toNat / 0x4000) a ∧ s.write a v = s) ∧
    (0xA000 ≤ a.toNat ∧ a.toNat < 0xC000 →
      (c.ramSize = 0 → s.read a = 0xFF#8 ∧ s.write a v = s) ∧
      (c.ramSize ≠ 0 → s.read a = c.ram.read ((a.toNat - 0xA000) % c.ramSize) ∧
        s.write a v = { s with cart := some { c with ram := c.ram.write ((a.toNat - 0xA000) % c.ramSize) v } }))) ∧
  (∀ (s : State) (c : Cart) (r : Mbc2) (a : Word) (v : Byte), s.cart = some c → c.ctrl = .mbc2 r →
    (a.toNat < 0x4000 → a.toNat / 256 % 2 = 0 →
      s.write a v = { s with cart := some { c with ctrl := .mbc2 { r with ramg := decide (v.toNat % 16 = 10) } } }) ∧
    (a.toNat < 0x4000 → a.toNat / 256 % 2 = 1 → ∃ b : BitVec 4,
      b.toNat = (if v.toNat % 16 = 0 then 1 else v.toNat % 16) ∧
      s.write a v = { s with cart := some { c with ctrl := .mbc2 { r with romb := b } } }) ∧
    (0x4000 ≤ a.toNat ∧ a.toNat < 0x8000 → s.write a v = s) ∧
    (a.toNat < 0x4000 → s.read a = romByteAt c 0 a) ∧
    (0x4000 ≤ a.toNat ∧ a.toNat < 0x8000 → s.read a = romByteAt c r.romb.toNat a) ∧
    (0xA000 ≤ a.toNat ∧ a.toNat < 0xC000 →
      (r.ramg = false → s.read a = 0xFF#8 ∧ s.write a v = s) ∧
      (r.ramg = true → (s.read a).toNat = 0xF0 + (c.ram.read ((a.toNat - 0xA000) % 512)).toNat % 16 ∧
        ∃ w : Byte, w.toNat = v.toNat % 16 ∧
          s.write a v = { s with cart := some { c with ram := c.ram.write ((a.toNat - 0xA000) % 512) w } })))

/-- R276, R277, R278: MBC1's registers, ROM banks and RAM window. -/
def Obligations.Mbc1Controller : Prop :=
  ∀ (s : State) (c : Cart) (r : Mbc1) (a : Word) (v : Byte), s.cart = some c → c.ctrl = .mbc1 r →
    (a.toNat < 0x2000 →
      s.write a v = { s with cart := some { c with ctrl := .mbc1 { r with ramg := decide (v.toNat % 16 = 10) } } }) ∧
    (0x2000 ≤ a.toNat ∧ a.toNat < 0x4000 → ∃ b : BitVec 5,
      b.toNat = (if v.toNat % 32 = 0 then 1 else v.toNat % 32) ∧
      s.write a v = { s with cart := some { c with ctrl := .mbc1 { r with bank1 := b } } }) ∧
    (0x4000 ≤ a.toNat ∧ a.toNat < 0x6000 → ∃ b : BitVec 2, b.toNat = v.toNat % 4 ∧
      s.write a v = { s with cart := some { c with ctrl := .mbc1 { r with bank2 := b } } }) ∧
    (0x6000 ≤ a.toNat ∧ a.toNat < 0x8000 →
      s.write a v = { s with cart := some { c with ctrl := .mbc1 { r with mode := decide (v.toNat % 2 = 1) } } }) ∧
    (a.toNat < 0x4000 → s.read a = romByteAt c (if r.mode = true then 32 * r.bank2.toNat else 0) a) ∧
    (0x4000 ≤ a.toNat ∧ a.toNat < 0x8000 → s.read a = romByteAt c (32 * r.bank2.toNat + r.bank1.toNat) a) ∧
    (0xA000 ≤ a.toNat ∧ a.toNat < 0xC000 →
      (r.ramg = false ∨ c.ramSize = 0 → s.read a = 0xFF#8 ∧ s.write a v = s) ∧
      (r.ramg = true → c.ramSize ≠ 0 →
        s.read a = c.ram.read (ramOffset c (if r.mode = true then r.bank2.toNat else 0) a) ∧
        s.write a v = { s with cart := some { c with
          ram := c.ram.write (ramOffset c (if r.mode = true then r.bank2.toNat else 0) a) v } }))

/-- R284, R285, R286: MBC3's registers, ROM banks and RAM window. A clock register reads as a free value; that this is
`Config.rtcRead` of the draw and the address is the model's own (log entry 4). -/
def Obligations.Mbc3Controller : Prop :=
  ∀ (s : State) (c : Cart) (r : Mbc3) (a : Word) (v : Byte), s.cart = some c → c.ctrl = .mbc3 r →
    (a.toNat < 0x2000 →
      s.write a v = { s with cart := some { c with ctrl := .mbc3 { r with ramg := decide (v.toNat % 16 = 10) } } }) ∧
    (0x2000 ≤ a.toNat ∧ a.toNat < 0x4000 → ∃ b : BitVec 7,
      b.toNat = (if v.toNat % 128 = 0 then 1 else v.toNat % 128) ∧
      s.write a v = { s with cart := some { c with ctrl := .mbc3 { r with romb := b } } }) ∧
    (0x4000 ≤ a.toNat ∧ a.toNat < 0x6000 →
      s.write a v = { s with cart := some { c with ctrl := .mbc3 { r with rsel := v } } }) ∧
    (0x6000 ≤ a.toNat ∧ a.toNat < 0x8000 → s.write a v = s) ∧
    (a.toNat < 0x4000 → s.read a = romByteAt c 0 a) ∧
    (0x4000 ≤ a.toNat ∧ a.toNat < 0x8000 → s.read a = romByteAt c r.romb.toNat a) ∧
    (0xA000 ≤ a.toNat ∧ a.toNat < 0xC000 →
      (r.ramg = false → s.read a = 0xFF#8 ∧ s.write a v = s) ∧
      (r.ramg = true → r.rsel.toNat ≤ 3 → c.ramSize = 0 → s.read a = 0xFF#8 ∧ s.write a v = s) ∧
      (r.ramg = true → r.rsel.toNat ≤ 3 → c.ramSize ≠ 0 →
        s.read a = c.ram.read (ramOffset c r.rsel.toNat a) ∧
        s.write a v = { s with cart := some { c with ram := c.ram.write (ramOffset c r.rsel.toNat a) v } }) ∧
      (r.ramg = true → 8 ≤ r.rsel.toNat ∧ r.rsel.toNat ≤ 12 →
        s.read a = Config.rtcRead s.draws a ∧ s.write a v = s) ∧
      (r.ramg = true → (3 < r.rsel.toNat ∧ r.rsel.toNat < 8) ∨ 12 < r.rsel.toNat →
        s.read a = 0xFF#8 ∧ s.write a v = s))

/-- R288, R289, R290: MBC5's registers, ROM banks (bank 0 allowed in the upper window) and RAM window. -/
def Obligations.Mbc5Controller : Prop :=
  ∀ (s : State) (c : Cart) (r : Mbc5) (a : Word) (v : Byte), s.cart = some c → c.ctrl = .mbc5 r →
    (a.toNat < 0x2000 →
      s.write a v = { s with cart := some { c with ctrl := .mbc5 { r with ramg := decide (v.toNat % 16 = 10) } } }) ∧
    (0x2000 ≤ a.toNat ∧ a.toNat < 0x3000 → ∃ b : BitVec 9, b.toNat = r.romb.toNat / 256 * 256 + v.toNat ∧
      s.write a v = { s with cart := some { c with ctrl := .mbc5 { r with romb := b } } }) ∧
    (0x3000 ≤ a.toNat ∧ a.toNat < 0x4000 → ∃ b : BitVec 9, b.toNat = v.toNat % 2 * 256 + r.romb.toNat % 256 ∧
      s.write a v = { s with cart := some { c with ctrl := .mbc5 { r with romb := b } } }) ∧
    (0x4000 ≤ a.toNat ∧ a.toNat < 0x6000 → ∃ b : BitVec 4,
      b.toNat = v.toNat % (if 0x1C ≤ c.typeCode.toNat ∧ c.typeCode.toNat ≤ 0x1E then 8 else 16) ∧
      s.write a v = { s with cart := some { c with ctrl := .mbc5 { r with ramb := b } } }) ∧
    (0x6000 ≤ a.toNat ∧ a.toNat < 0x8000 → s.write a v = s) ∧
    (a.toNat < 0x4000 → s.read a = romByteAt c 0 a) ∧
    (0x4000 ≤ a.toNat ∧ a.toNat < 0x8000 → s.read a = romByteAt c r.romb.toNat a) ∧
    (0xA000 ≤ a.toNat ∧ a.toNat < 0xC000 →
      (r.ramg = false ∨ c.ramSize = 0 → s.read a = 0xFF#8 ∧ s.write a v = s) ∧
      (r.ramg = true → c.ramSize ≠ 0 →
        s.read a = c.ram.read (ramOffset c r.ramb.toNat a) ∧
        s.write a v = { s with cart := some { c with ram := c.ram.write (ramOffset c r.ramb.toNat a) v } }))

/-- R265: in a cartridge as loads make them and use keeps them, the bank a ROM read resolves to is below the bank count
and is the bank number masked by the count less one, and a RAM access is within the RAM. -/
def Obligations.BanksWithinTheCartridge : Prop :=
  ∀ (c : Cart) (a : Nat), c.Ok →
    c.readRom a = c.romByte (c.romBank a &&& (c.romBanks - 1)) (a % 0x4000) ∧
    c.romBank a &&& (c.romBanks - 1) = c.romBank a % c.romBanks ∧ c.romBank a % c.romBanks < c.romBanks ∧
    (∀ off, c.ramTarget a = .cell off ∨ c.ramTarget a = .nibble off → off < c.ramSize)

/-- R252, R254 to R257, R259 to R261, R291, R903: `load_rom` fails exactly on an image shorter than the header, changing
nothing; otherwise the new cartridge shows the image, has the controller its type code names at power-on and the RAM
of its size code all 0x00, and the machine is reset. (The size held for an unsupported type, 0, is the model's reading
of R262 and R275, log entry 14.) -/
def Obligations.LoadingAnImage : Prop :=
  ∀ (s : State) (bytes : List Byte),
    (bytes.length < 0x150 → s.loadRom bytes = .error (.imageTooShort bytes.length)) ∧
    (0x150 ≤ bytes.length → ∃ c, s.loadRom bytes = .ok { s.resetMachine with cart := some c } ∧
      c.len = bytes.length ∧
      (∀ b o, o < 0x4000 → c.romByte b o = (bytes[b * 0x4000 + o]?).getD 0xFF#8) ∧
      (∃ rest, (bytes.drop 0x134).take (if (bytes.getD 0x143 0).getLsbD 7 = true then 15 else 16) = c.title ++ rest ∧
        0x00#8 ∉ c.title ∧ (rest = [] ∨ rest.head? = some 0x00#8)) ∧
      c.typeCode = bytes.getD 0x147 0 ∧
      ((bytes.getD 0x148 0).toNat ≤ 8 → c.romBanks = 2 * 2 ^ (bytes.getD 0x148 0).toNat) ∧
      ((bytes.getD 0x148 0).toNat > 8 → (∃ k, c.romBanks = 2 ^ (k + 1)) ∧ bytes.length ≤ c.romBanks * 0x4000 ∧
        ∀ k, bytes.length ≤ 2 ^ (k + 1) * 0x4000 → c.romBanks ≤ 2 ^ (k + 1)) ∧
      c.ramSize = ramSizeByHeader (bytes.getD 0x147 0).toNat (bytes.getD 0x149 0).toNat ∧
      (∀ k, c.ram.read k = 0) ∧
      c.cgb = (bytes.getD 0x143 0).getLsbD 7 ∧
      (c.supported = true ↔ c.typeCode.toNat ∈ supportedCodes) ∧
      c.ctrl = powerOnController c.typeCode.toNat) ∧
    (∀ c, s.cart = some c → s.resetMachine.cart = some { c with ctrl := powerOnController c.typeCode.toNat })

/-! ## The PPU (61_ppu) -/

/-- R852, R855, R860: from line 0, OAM-search, counter 0, the mode, line and counter after any number of cycles of a
frame; and from any legal place the same place again after 70224 cycles. -/
def Obligations.PpuTimeline : Prop :=
  (∀ (s : State) (n : Nat), s.mode = .oamSearch → s.dot = 0 → s.line = 0 → n < 70224 →
    (State.advance n s).line = n / 456 ∧
    ((State.advance n s).mode, (State.advance n s).dot) =
      (if n / 456 ≥ 144 then (.vblank, n % 456)
       else if n % 456 < 80 then (.oamSearch, n % 456)
       else if n % 456 < 252 then (.drawing, n % 456 - 80)
       else (.hblank, n % 456 - 252))) ∧
  (∀ s : State, s.ppuOk →
    (State.advance 70224 s).mode = s.mode ∧ (State.advance 70224 s).dot = s.dot ∧
    (State.advance 70224 s).line = s.line)

/-- R856: the PPU runs the same whatever the registers hold (mode, counter and line after n cycles depend on mode,
counter and line alone), and no instruction changes any of the PPU's state, the frame buffer or the buttons. -/
def Obligations.PpuRunsByItself : Prop :=
  (∀ (s t : State) (n : Nat), s.mode = t.mode → s.dot = t.dot → s.line = t.line →
    (State.advance n s).mode = (State.advance n t).mode ∧ (State.advance n s).dot = (State.advance n t).dot ∧
    (State.advance n s).line = (State.advance n t).line) ∧
  (∀ (i : Instr) (s t : State), exec i s = .next t →
    t.mode = s.mode ∧ t.dot = s.dot ∧ t.line = s.line ∧ t.winLine = s.winLine ∧ t.frame = s.frame ∧
    t.buttons = s.buttons ∧ t.frameAcc = s.frameAcc ∧ t.cycleCount = s.cycleCount) ∧
  (∀ (s : State) (n : Nat), State.advance n s = { s with
    mode := (State.advance n s).mode, dot := (State.advance n s).dot, line := (State.advance n s).line
    winLine := (State.advance n s).winLine, mem := (State.advance n s).mem, frame := (State.advance n s).frame })

/-- R852, R857, R859: what a line change and a mode change write: LY, STAT's bits and the requests in IF, and no other
byte; a tick without a change writes none; and the transition at each mode's threshold. -/
def Obligations.PpuMirrorAndRequests : Prop :=
  (∀ (s : State) (n : Nat), s.memOk →
    (s.setLine n).line = n ∧
    (s.setLine n).io 0x44 = BitVec.ofNat 8 n ∧
    (∀ k, ((s.setLine n).io 0x41).getLsbD k =
      if k = 2 then decide (BitVec.ofNat 8 n = s.io 0x45) else (s.io 0x41).getLsbD k) ∧
    (∀ k, ((s.setLine n).io 0x0F).getLsbD k = ((s.io 0x0F).getLsbD k ||
      (k == 1 && decide (BitVec.ofNat 8 n = s.io 0x45) && (s.io 0x41).getLsbD 6))) ∧
    (∀ a, a ≠ 0xFF0F → a ≠ 0xFF41 → a ≠ 0xFF44 → (s.setLine n).mem.read a = s.mem.read a)) ∧
  (∀ (s : State) (m : PpuMode), s.memOk →
    (s.enterMode m).mode = m ∧
    (∀ k, ((s.enterMode m).io 0x41).getLsbD k =
      if k < 2 then (modeNumber m).testBit k else (s.io 0x41).getLsbD k) ∧
    (∀ k, ((s.enterMode m).io 0x0F).getLsbD k = ((s.io 0x0F).getLsbD k ||
      (k == 0 && decide (m = .vblank)) ||
      (k == 1 && ((decide (m = .vblank) && (s.io 0x41).getLsbD 4) || (decide (m = .hblank) && (s.io 0x41).getLsbD 3) ||
        (decide (m = .oamSearch) && (s.io 0x41).getLsbD 5))))) ∧
    (∀ a, a ≠ 0xFF0F → a ≠ 0xFF41 → (s.enterMode m).mem.read a = s.mem.read a)) ∧
  (∀ s : State, s.dot + 1 ≠ modeCycles s.mode → s.tick = { s with dot := s.dot + 1 }) ∧
  (∀ s : State, s.mode = .hblank → s.dot = 203 → s.line + 1 < 144 →
    s.tick = ({ s with dot := 0 }.setLine (s.line + 1)).enterMode .oamSearch) ∧
  (∀ s : State, s.mode = .hblank → s.dot = 203 → 144 ≤ s.line + 1 →
    s.tick = ({ s with dot := 0 }.setLine (s.line + 1)).enterMode .vblank) ∧
  (∀ s : State, s.mode = .oamSearch → s.dot = 79 → s.tick = { s with dot := 0 }.enterMode .drawing) ∧
  (∀ s : State, s.mode = .drawing → s.dot = 171 →
    s.tick = ({ s with dot := 0 }.render s.line).enterMode .hblank) ∧
  (∀ s : State, s.mode = .vblank → s.dot = 455 → s.line ≠ 153 →
    s.tick = { s with dot := 0 }.setLine (s.line + 1)) ∧
  (∀ s : State, s.mode = .vblank → s.dot = 455 → s.line = 153 →
    s.tick = ({ s with dot := 0, winLine := 0 }.setLine 0).enterMode .oamSearch)

/-- R871, R872: the background and window colour index, by the bytes of the tile map and the tile data; the
window's line counter goes up by one on a line the window shows on, and to 0 when the frame wraps. -/
def Obligations.BackgroundAndWindow : Prop :=
  ∀ (s : State) (ly x : Nat), ly < 144 → x < 160 → s.winLine < 256 →
    (bitOf (s.read 0xFF40#16) 0 = 0 → s.bgIndex ly x = 0) ∧
    (bitOf (s.read 0xFF40#16) 0 = 1 → windowAt s ly x →
      (s.bgIndex ly x).toNat = tilePixelAt s
        (mapByte s (bitOf (s.read 0xFF40#16) 6) ((x + 7 - (s.read 0xFF4B#16).toNat) / 8) (s.winLine / 8))
        ((x + 7 - (s.read 0xFF4B#16).toNat) % 8) (s.winLine % 8)) ∧
    (bitOf (s.read 0xFF40#16) 0 = 1 → ¬ windowAt s ly x →
      (s.bgIndex ly x).toNat = tilePixelAt s
        (mapByte s (bitOf (s.read 0xFF40#16) 3) ((x + (s.read 0xFF43#16).toNat) % 256 / 8)
          ((ly + (s.read 0xFF42#16).toNat) % 256 / 8))
        ((x + (s.read 0xFF43#16).toNat) % 8) ((ly + (s.read 0xFF42#16).toNat) % 8)) ∧
    (bitOf (s.read 0xFF40#16) 0 = 1 ∧ windowAt s ly x → (s.render ly).winLine = s.winLine + 1) ∧
    ((∀ x', x' < 160 → ¬ (bitOf (s.read 0xFF40#16) 0 = 1 ∧ windowAt s ly x')) → (s.render ly).winLine = s.winLine) ∧
    (s.mode = .vblank → s.dot = 455 → s.line = 153 → s.tick.winLine = 0)

/-- R873, R874: entry k of OAM is the four bytes from 0xFE00 + 4k on, Y, X, tile and attributes; the sprites of a line are
the first ten entries in OAM order whose rows cover it, and none with sprites off. -/
def Obligations.TenSpritesPerLine : Prop :=
  ∀ (s : State) (ly : Nat),
    (∀ k, k < 40 → s.sprite k = spriteAt s k) ∧
    (bitOf (s.read 0xFF40#16) 1 = 0 → s.spritesOn ly = []) ∧
    (bitOf (s.read 0xFF40#16) 1 = 1 → ∃ ks : List Nat, s.spritesOn ly = ks.map s.sprite ∧
      ks.Pairwise (· < ·) ∧ ks.length ≤ 10 ∧
      ∀ k, k ∈ ks ↔ k < 40 ∧ coversLine s ly k = true ∧ ((List.range k).filter (coversLine s ly)).length < 10)

/-- R873, R875, R876: the first sprite of the line in OAM order with a colour at the pixel wins it, and is shown unless its
priority bit puts it behind a background that is not colour 0; the shade is the palette's two bits for the
colour; a sprite's colour at a pixel is the bits of its tile row, flipped as its attributes say; entry k of OAM is the
four bytes from 0xFE00 + 4k on. -/
def Obligations.SpritePriority : Prop :=
  ∀ (s : State) (sprites : List Sprite) (ly x : Nat),
    (∀ k, k < 40 → s.sprite k = spriteAt s k) ∧
    ((∀ q ∈ sprites, s.spriteIndex q ly x = 0) →
      (s.pixelShade sprites ly x).toNat = shadeBits (s.read 0xFF47#16) (s.bgIndex ly x).toNat) ∧
    (∀ (before after : List Sprite) (q : Sprite), sprites = before ++ q :: after →
      (∀ p ∈ before, s.spriteIndex p ly x = 0) → s.spriteIndex q ly x ≠ 0 →
      (s.pixelShade sprites ly x).toNat =
        if q.attr.getLsbD 7 = true ∧ s.bgIndex ly x ≠ 0 then shadeBits (s.read 0xFF47#16) (s.bgIndex ly x).toNat
        else shadeBits (if q.attr.getLsbD 4 = true then s.read 0xFF49#16 else s.read 0xFF48#16)
          (s.spriteIndex q ly x).toNat) ∧
    (∀ q : Sprite, ¬ (q.x.toNat ≤ x + 8 ∧ x + 8 < q.x.toNat + 8) → s.spriteIndex q ly x = 0) ∧
    (∀ q : Sprite, q.x.toNat ≤ x + 8 ∧ x + 8 < q.x.toNat + 8 →
      q.y.toNat ≤ ly + 16 → ly + 16 < q.y.toNat + spriteRows s → (s.spriteIndex q ly x).toNat = spritePixelAt s q ly x)

/-- R870, R877, R879, R902: the render of a visible line writes the 160 pixels of its row, each the four bytes of its shade
with alpha 0xFF, and no other row; a line beyond 143 renders nothing. A pixel's shade is the two bits that the chosen
palette has for the chosen colour index. The render at the end of Drawing is the frame buffer's only writer: no other
tick, no CPU step, no reset, no load and no button changes it. The host sees it as 92160 bytes. It holds whatever SHADE_RGB is
(log entry 6). The last sentence of R902, on what a whole frame holds, is the spec's own inference and is not said here. -/
def Obligations.RenderWritesItsRow : Prop :=
  ∀ (s : State) (ly x y : Nat), s.frameOk → x < 160 → y < 144 →
    (143 < ly → s.render ly = s) ∧
    s.render ly = { s with frame := (s.render ly).frame, winLine := (s.render ly).winLine } ∧
    (ly ≤ 143 → (∃ x', x' < 160 ∧ bitOf (s.read 0xFF40#16) 0 = 1 ∧ windowAt s ly x') →
      (s.render ly).winLine = s.winLine + 1) ∧
    (ly ≤ 143 → y ≠ ly → ∀ k, k < 4 → (s.render ly).frameByte (4 * (160 * y + x) + k) = s.frameByte (4 * (160 * y + x) + k)) ∧
    (ly ≤ 143 → (s.render ly).frameByte (4 * (160 * ly + x)) = (Config.shadeRgb (s.pixelShade (s.spritesOn ly) ly x)).1 ∧
      (s.render ly).frameByte (4 * (160 * ly + x) + 1) = (Config.shadeRgb (s.pixelShade (s.spritesOn ly) ly x)).2.1 ∧
      (s.render ly).frameByte (4 * (160 * ly + x) + 2) = (Config.shadeRgb (s.pixelShade (s.spritesOn ly) ly x)).2.2 ∧
      (s.render ly).frameByte (4 * (160 * ly + x) + 3) = 0xFF#8) ∧
    (ly ≤ 143 → (s.pixelShade (s.spritesOn ly) ly x).toNat = shadeBits (s.read 0xFF47#16) (s.bgIndex ly x).toNat ∨
      ∃ q ∈ s.spritesOn ly, (s.pixelShade (s.spritesOn ly) ly x).toNat =
        shadeBits (if bitOf q.attr 4 = 1 then s.read 0xFF49#16 else s.read 0xFF48#16) (s.spriteIndex q ly x).toNat) ∧
    (s.mode = .drawing → s.dot = 171 → s.tick.frame = (s.render s.line).frame) ∧
    (¬ (s.mode = .drawing ∧ s.dot = 171) → s.tick.frame = s.frame) ∧
    (∀ t, s.cpuStep = .next t → t.frame = s.frame) ∧
    s.resetMachine.frame = s.frame ∧
    (∀ bytes t, s.loadRom bytes = .ok t → t.frame = s.frame) ∧
    (∀ code pressed, (s.setInput code pressed).frame = s.frame) ∧
    s.getPixels.length = 92160 ∧
    ∀ k, k < 4 → s.getPixels[4 * (160 * y + x) + k]? = some (s.frameByte (4 * (160 * y + x) + k))

/-! ## The driver and the host (62_host_and_frame, 70_reset_and_hazards) -/

/-- R901: `run_frame` always ends, after whole steps that bring the frame's cycles to 70224 or at most 23 beyond, and counts
every one of them. -/
def Obligations.RunFrameRunsOneFrame : Prop :=
  (∀ s : State, s.frameAcc < 70224 →
    ∃ u t, s.runFrame = .next t ∧ Passes s u ∧ 70224 ≤ u.frameAcc ∧ t = { u with frameAcc := u.frameAcc - 70224 } ∧
      t.frameAcc ≤ 23 ∧ t.cycleCount + s.frameAcc = s.cycleCount + 70224 + t.frameAcc) ∧
  (∀ s m : State, s.cpuStep = .next m → s.driverPass = .next { State.advance m.cycles m with
    frameAcc := s.frameAcc + m.cycles, cycleCount := s.cycleCount + m.cycles })

/-- R909: a press clears the button's bit and ends STOP, a release sets it, a code above 7 does nothing, a press and release
give the byte back, and nothing else changes. -/
def Obligations.ButtonInput : Prop :=
  ∀ (s : State) (code : Nat) (pressed : Bool),
    (7 < code → s.setInput code pressed = s) ∧
    (code ≤ 7 → s.setInput code true = { s with buttons := (s.setInput code true).buttons, stopped := false } ∧
      ∀ k, k < 8 → (s.setInput code true).buttons.getLsbD k = (s.buttons.getLsbD k && k != code)) ∧
    (code ≤ 7 → s.setInput code false = { s with buttons := (s.setInput code false).buttons } ∧
      ∀ k, k < 8 → (s.setInput code false).buttons.getLsbD k = (s.buttons.getLsbD k || k == code)) ∧
    (code ≤ 7 → s.buttons.getLsbD code = true →
      ((s.setInput code true).setInput code false).buttons = s.buttons)

/-- R900, R904, R950: the reset procedure, field by field, and what construct adds (no cartridge, no button pressed, a frame
buffer of 0x00): the registers, all memory 0x00, the PPU, the driver; the buttons, the frame
buffer and the cartridge kept, its controller at power-on. -/
def Obligations.ResetProcedure : Prop :=
  ∀ s : State,
    (s.resetMachine.a = 0x01#8 ∧ s.resetMachine.f = 0xB0#8 ∧ s.resetMachine.b = 0x00#8 ∧ s.resetMachine.c = 0x13#8 ∧
      s.resetMachine.d = 0x00#8 ∧ s.resetMachine.e = 0xD8#8 ∧ s.resetMachine.h = 0x01#8 ∧ s.resetMachine.l = 0x4D#8 ∧
      s.resetMachine.sp = 0xFFFE#16 ∧ s.resetMachine.pc = 0x0100#16) ∧
    (s.resetMachine.ime = false ∧ s.resetMachine.eiPending = false ∧ s.resetMachine.halted = false ∧
      s.resetMachine.haltBug = false ∧ s.resetMachine.stopped = false) ∧
    (∀ a, s.resetMachine.mem.read a = 0x00#8) ∧
    (s.resetMachine.mode = .oamSearch ∧ s.resetMachine.dot = 0 ∧ s.resetMachine.line = 0 ∧ s.resetMachine.winLine = 0) ∧
    (s.resetMachine.frameAcc = 0 ∧ s.resetMachine.cycleCount = 0) ∧
    (s.resetMachine.buttons = s.buttons ∧ s.resetMachine.frame = s.frame) ∧
    (s.cart = none → s.resetMachine.cart = none) ∧
    (∀ c, s.cart = some c → s.resetMachine.cart = some { c with ctrl := powerOnController c.typeCode.toNat }) ∧
    (construct.resetMachine = construct ∧ construct.cart = none ∧ construct.buttons = 0xFF#8 ∧
      ∀ k, construct.frameByte k = 0x00#8)

/-- R905: a snapshot restores every piece of state into any machine with the same cartridge, so that the run after the restore is
the run after the snapshot; anything else is refused with an error. That a snapshot is a token is the model's choice, log entry 11; that the cycle count is restored
with the rest, though C17 has only reset and load decrease it, is too, log entry 16. -/
def Obligations.SnapshotRoundTrip : Prop :=
  (∀ s t : State, sameCart t s = true → t.setState s.getState = .ok s) ∧
  (∀ s t : State, step s = .next t → t.setState s.getState = .ok s) ∧
  (∀ s t : State, sameCart t s = false → ∃ x, t.setState s.getState = .error x) ∧
  (∀ (s : State) (bytes : List Byte), ∃ x, s.setState (.foreign bytes) = .error x)
end

