-- ==== Sys2Proof/Laws/Memory.lean ====
section
/-! SUPPORT. The laws of the sparse memory: read after write, the canonical form and the set of listed addresses
kept by every operation, and equal reads of canonical memories. -/

namespace Sys2Proof.Machine

/-! ## Reading after writing -/

/-- Where the canonical form's order holds from `k` on, no address up to `k` is listed. -/
theorem Memory.read_of_above {m : Memory} {k a : Nat} (hk : m.above k = true) (hw : m.wf = true)
    (ha : a ≤ k) : m.read a = Memory.unlisted := by
  induction m generalizing k with
  | nil => rfl
  | cons cell m ih =>
    obtain ⟨j, v⟩ := cell
    simp only [Memory.above, decide_eq_true_eq] at hk
    simp only [Memory.wf, Bool.and_eq_true] at hw
    simp only [Memory.read]
    rw [if_neg (by omega)]
    exact ih hw.1.2 hw.2 (by omega)

/-- Reading the address just written gives the byte written. -/
theorem Memory.read_write_same {m : Memory} (a : Nat) (v : Byte) (hw : m.wf = true) :
    (m.write a v).read a = v := by
  induction m with
  | nil => by_cases h : v = Memory.unlisted <;> simp [Memory.write, Memory.read, h]
  | cons cell m ih =>
    obtain ⟨k, w⟩ := cell
    simp only [Memory.wf, Bool.and_eq_true] at hw
    simp only [Memory.write]
    by_cases h1 : a < k
    · have h2 : a ≠ k := by omega
      by_cases h : v = Memory.unlisted
      · have h3 := Memory.read_of_above hw.1.2 hw.2 (Nat.le_of_lt h1)
        simp [h1, h, Memory.read, h2, h3]
      · simp [h1, h, Memory.read]
    · by_cases h2 : a = k
      · subst h2
        by_cases h : v = Memory.unlisted
        · simp [h, Memory.read_of_above hw.1.2 hw.2 (Nat.le_refl _)]
        · simp [h, Memory.read]
      · simp [h1, h2, Memory.read, ih hw.2]

/-- Every other address reads as before, in any list. -/
theorem Memory.read_write_other {m : Memory} {a b : Nat} (v : Byte) (hab : b ≠ a) :
    (m.write a v).read b = m.read b := by
  induction m with
  | nil => by_cases h : v = Memory.unlisted <;> simp [Memory.write, Memory.read, h, hab]
  | cons cell m ih =>
    obtain ⟨k, w⟩ := cell
    simp only [Memory.write]
    by_cases h1 : a < k
    · by_cases h : v = Memory.unlisted <;> simp [h1, h, Memory.read, hab]
    · by_cases h2 : a = k
      · subst h2
        by_cases h : v = Memory.unlisted
        · simp [h, Memory.read, hab]
        · simp [h, Memory.read, hab]
      · simp [h1, h2, Memory.read, ih]

/-- Both at once. -/
theorem Memory.read_write {m : Memory} (a b : Nat) (v : Byte) (hw : m.wf = true) :
    (m.write a v).read b = if b = a then v else m.read b := by
  split
  next h => rw [h, Memory.read_write_same a v hw]
  next h => exact Memory.read_write_other v h

/-! ## The canonical form is kept -/

/-- A write at a higher address leaves the first listed address above `k`. -/
theorem Memory.above_write {m : Memory} {k a : Nat} (v : Byte) (hk : m.above k = true) (ha : k < a)
    (hw : m.wf = true) : (m.write a v).above k = true := by
  cases m with
  | nil => by_cases h : v = Memory.unlisted <;> simp [Memory.write, Memory.above, h, ha]
  | cons cell m =>
    obtain ⟨j, w⟩ := cell
    simp only [Memory.above, decide_eq_true_eq] at hk
    simp only [Memory.wf, Bool.and_eq_true] at hw
    simp only [Memory.write]
    by_cases h1 : a < j
    · by_cases h : v = Memory.unlisted <;> simp [h1, h, Memory.above, ha, hk]
    · by_cases h2 : a = j
      · by_cases h : v = Memory.unlisted
        · subst h2
          have hm := hw.1.2
          cases m with
          | nil => simp [h, Memory.above]
          | cons c2 m2 =>
            simp only [Memory.above, decide_eq_true_eq] at hm
            simp only [h, Memory.above]
            simp
            omega
        · simp [h2, h, Memory.above, hk]
      · simp [h1, h2, Memory.above, hk]

/-- A write keeps the canonical form. -/
theorem Memory.write_wf {m : Memory} (a : Nat) (v : Byte) (hw : m.wf = true) : (m.write a v).wf = true := by
  induction m with
  | nil => by_cases h : v = Memory.unlisted <;> simp [Memory.write, Memory.wf, Memory.above, h]
  | cons cell m ih =>
    obtain ⟨k, w⟩ := cell
    have hw' := hw
    simp only [Memory.wf, Bool.and_eq_true] at hw
    simp only [Memory.write]
    by_cases h1 : a < k
    · by_cases h : v = Memory.unlisted
      · simpa [h1, h] using hw'
      · simp only [h1, h, if_true, if_false, Memory.wf, Memory.above, Bool.and_eq_true, decide_eq_true_eq,
          bne_iff_ne, ne_eq, not_false_eq_true, true_and]
        exact ⟨⟨by simpa using hw.1.1, hw.1.2⟩, hw.2⟩
    · by_cases h2 : a = k
      · by_cases h : v = Memory.unlisted
        · simpa [h1, h2, h] using hw.2
        · simp only [h2, h, if_true, if_false, Memory.wf, Bool.and_eq_true, bne_iff_ne, ne_eq,
            not_false_eq_true, true_and, Nat.lt_irrefl]
          exact ⟨hw.1.2, hw.2⟩
      · simp only [h1, h2, if_false, Memory.wf, Bool.and_eq_true]
        exact ⟨⟨hw.1.1, Memory.above_write v hw.1.2 (by omega) hw.2⟩, ih hw.2⟩

/-- A write keeps the listed addresses within `p`. -/
theorem Memory.write_keysIn {p : Nat → Bool} {m : Memory} (a : Nat) (v : Byte) (hm : m.keysIn p = true)
    (ha : p a = true) : (m.write a v).keysIn p = true := by
  induction m with
  | nil => by_cases h : v = Memory.unlisted <;> simp [Memory.write, Memory.keysIn, h, ha]
  | cons cell m ih =>
    obtain ⟨k, w⟩ := cell
    simp only [Memory.keysIn, List.all_cons, Bool.and_eq_true] at hm ih
    have ih := ih hm.2
    simp only [Memory.write, Memory.keysIn]
    split
    · split <;> simp only [List.all_cons, Bool.and_eq_true] <;> simp only [ha, hm.1, hm.2, and_self]
    · split
      · split
        · exact hm.2
        · simp only [List.all_cons, Bool.and_eq_true]
          exact hm
      · simp only [List.all_cons, Bool.and_eq_true]
        exact ⟨hm.1, ih⟩

/-! ## Memories built from bytes -/

theorem Memory.above_ofBytes (k j : Nat) (bytes : List Byte) (h : j < k) :
    (Memory.ofBytes k bytes).above j = true := by
  induction bytes generalizing k with
  | nil => rfl
  | cons v rest ih =>
    simp only [Memory.ofBytes]
    split
    · exact ih (k + 1) (by omega)
    · simpa [Memory.above] using h

/-- A memory built from bytes is in canonical form. -/
theorem Memory.ofBytes_wf (k : Nat) (bytes : List Byte) : (Memory.ofBytes k bytes).wf = true := by
  induction bytes generalizing k with
  | nil => rfl
  | cons v rest ih =>
    simp only [Memory.ofBytes]
    split
    · exact ih _
    · rename_i h
      simp only [Memory.wf, Bool.and_eq_true, bne_iff_ne, ne_eq]
      exact ⟨⟨h, Memory.above_ofBytes _ _ _ (by omega)⟩, ih _⟩

/-- It lists only the addresses the bytes lie at. -/
theorem Memory.ofBytes_keysIn (k : Nat) (bytes : List Byte) :
    (Memory.ofBytes k bytes).keysIn (fun j => k ≤ j && j < k + bytes.length) = true := by
  induction bytes generalizing k with
  | nil => rfl
  | cons v rest ih =>
    have h2 : Memory.keysIn (fun j => k ≤ j && j < k + (v :: rest).length) (Memory.ofBytes (k + 1) rest)
        = true := by
      have h := ih (k + 1)
      simp only [Memory.keysIn, List.all_eq_true, Bool.and_eq_true, decide_eq_true_eq, List.length_cons] at h ⊢
      intro x hx
      have := h x hx
      omega
    simp only [Memory.ofBytes]
    split
    · exact h2
    · simp only [Memory.keysIn, List.all_cons, Bool.and_eq_true, decide_eq_true_eq, List.length_cons] at h2 ⊢
      exact ⟨⟨by omega, by omega⟩, h2⟩

/-- The byte at an address is the byte given for it. -/
theorem Memory.read_ofBytes (k : Nat) (bytes : List Byte) (j : Nat) (hj : j < bytes.length) :
    (Memory.ofBytes k bytes).read (k + j) = bytes[j] := by
  induction bytes generalizing k j with
  | nil => simp at hj
  | cons v rest ih =>
    cases j with
    | zero =>
      simp only [Memory.ofBytes]
      split
      · rename_i h
        simpa [h] using Memory.read_of_above (Memory.above_ofBytes (k + 1) k rest (by omega))
          (Memory.ofBytes_wf _ _) (Nat.le_refl k)
      · simp [Memory.read]
    | succ j =>
      have h := ih (k + 1) j (by simpa using hj)
      have e : k + (j + 1) = k + 1 + j := by omega
      simp only [Memory.ofBytes]
      split
      · rw [e, h]; simp
      · rw [e, Memory.read, if_neg (by omega), h]; simp

/-! ## Canonical memories that read alike are equal -/

theorem Memory.eq_of_read_eq {m n : Memory} (hm : m.wf = true) (hn : n.wf = true)
    (h : ∀ a, m.read a = n.read a) : m = n := by
  induction m generalizing n with
  | nil =>
    cases n with
    | nil => rfl
    | cons c n =>
      obtain ⟨k, v⟩ := c
      simp only [Memory.wf, Bool.and_eq_true, bne_iff_ne] at hn
      have := h k
      simp [Memory.read] at this
      exact absurd this.symm hn.1.1
  | cons c m ih =>
    obtain ⟨k, v⟩ := c
    cases n with
    | nil =>
      simp only [Memory.wf, Bool.and_eq_true, bne_iff_ne] at hm
      have := h k
      simp [Memory.read] at this
      exact absurd this hm.1.1
    | cons c' n =>
      obtain ⟨j, w⟩ := c'
      simp only [Memory.wf, Bool.and_eq_true, bne_iff_ne] at hm hn
      have hk : k = j := by
        rcases Nat.lt_trichotomy k j with hlt | heq | hgt
        · have := h k
          have hr : Memory.read ((j, w) :: n) k = Memory.unlisted := by
            rw [Memory.read, if_neg (by omega)]
            exact Memory.read_of_above hn.1.2 hn.2 (by omega)
          rw [hr] at this
          simp [Memory.read] at this
          exact absurd this hm.1.1
        · exact heq
        · have := h j
          have hr : Memory.read ((k, v) :: m) j = Memory.unlisted := by
            rw [Memory.read, if_neg (by omega)]
            exact Memory.read_of_above hm.1.2 hm.2 (by omega)
          rw [hr] at this
          simp [Memory.read] at this
          exact absurd this.symm hn.1.1
      subst hk
      have hv : v = w := by simpa [Memory.read] using h k
      subst hv
      have hmn : m = n := ih hm.2 hn.2 (by
        intro a
        by_cases ha : a = k
        · subst ha
          rw [Memory.read_of_above hm.1.2 hm.2 (Nat.le_refl _), Memory.read_of_above hn.1.2 hn.2 (Nat.le_refl _)]
        · have := h a
          simpa [Memory.read, ha] using this)
      rw [hmn]

/-- The memory after reset is in canonical form. -/
theorem reset_mem_wf : State.reset.mem.wf = true := rfl

end Sys2Proof.Machine
end

