-- ==== Sys2Proof/Laws/State.lean ====
section
/-! SUPPORT. What each state operation leaves alone. For each operation `State.<op>_changes` says which fields it may
change, and one simp lemma for each other field says that it keeps it. -/

namespace Sys2Proof.Machine

/-! ### setReg -/

theorem State.setReg_changes (s : State) (r : Reg8) (v : Byte) :
    s.setReg r v = { s with a := (s.setReg r v).a, b := (s.setReg r v).b, c := (s.setReg r v).c, d := (s.setReg r v).d, e := (s.setReg r v).e, h := (s.setReg r v).h, l := (s.setReg r v).l } := by cases r <;> rfl
@[simp] theorem State.setReg_f (s : State) (r : Reg8) (v : Byte) : (s.setReg r v).f = s.f :=
  (congrArg State.f (State.setReg_changes s r v) :)
@[simp] theorem State.setReg_sp (s : State) (r : Reg8) (v : Byte) : (s.setReg r v).sp = s.sp :=
  (congrArg State.sp (State.setReg_changes s r v) :)
@[simp] theorem State.setReg_pc (s : State) (r : Reg8) (v : Byte) : (s.setReg r v).pc = s.pc :=
  (congrArg State.pc (State.setReg_changes s r v) :)
@[simp] theorem State.setReg_ime (s : State) (r : Reg8) (v : Byte) : (s.setReg r v).ime = s.ime :=
  (congrArg State.ime (State.setReg_changes s r v) :)
@[simp] theorem State.setReg_eiPending (s : State) (r : Reg8) (v : Byte) : (s.setReg r v).eiPending = s.eiPending :=
  (congrArg State.eiPending (State.setReg_changes s r v) :)
@[simp] theorem State.setReg_halted (s : State) (r : Reg8) (v : Byte) : (s.setReg r v).halted = s.halted :=
  (congrArg State.halted (State.setReg_changes s r v) :)
@[simp] theorem State.setReg_haltBug (s : State) (r : Reg8) (v : Byte) : (s.setReg r v).haltBug = s.haltBug :=
  (congrArg State.haltBug (State.setReg_changes s r v) :)
@[simp] theorem State.setReg_stopped (s : State) (r : Reg8) (v : Byte) : (s.setReg r v).stopped = s.stopped :=
  (congrArg State.stopped (State.setReg_changes s r v) :)
@[simp] theorem State.setReg_mem (s : State) (r : Reg8) (v : Byte) : (s.setReg r v).mem = s.mem :=
  (congrArg State.mem (State.setReg_changes s r v) :)
@[simp] theorem State.setReg_buttons (s : State) (r : Reg8) (v : Byte) : (s.setReg r v).buttons = s.buttons :=
  (congrArg State.buttons (State.setReg_changes s r v) :)
@[simp] theorem State.setReg_mode (s : State) (r : Reg8) (v : Byte) : (s.setReg r v).mode = s.mode :=
  (congrArg State.mode (State.setReg_changes s r v) :)
@[simp] theorem State.setReg_dot (s : State) (r : Reg8) (v : Byte) : (s.setReg r v).dot = s.dot :=
  (congrArg State.dot (State.setReg_changes s r v) :)
@[simp] theorem State.setReg_line (s : State) (r : Reg8) (v : Byte) : (s.setReg r v).line = s.line :=
  (congrArg State.line (State.setReg_changes s r v) :)
@[simp] theorem State.setReg_winLine (s : State) (r : Reg8) (v : Byte) : (s.setReg r v).winLine = s.winLine :=
  (congrArg State.winLine (State.setReg_changes s r v) :)
@[simp] theorem State.setReg_cart (s : State) (r : Reg8) (v : Byte) : (s.setReg r v).cart = s.cart :=
  (congrArg State.cart (State.setReg_changes s r v) :)
@[simp] theorem State.setReg_frame (s : State) (r : Reg8) (v : Byte) : (s.setReg r v).frame = s.frame :=
  (congrArg State.frame (State.setReg_changes s r v) :)
@[simp] theorem State.setReg_frameAcc (s : State) (r : Reg8) (v : Byte) : (s.setReg r v).frameAcc = s.frameAcc :=
  (congrArg State.frameAcc (State.setReg_changes s r v) :)
@[simp] theorem State.setReg_cycleCount (s : State) (r : Reg8) (v : Byte) : (s.setReg r v).cycleCount = s.cycleCount :=
  (congrArg State.cycleCount (State.setReg_changes s r v) :)
@[simp] theorem State.setReg_cycles (s : State) (r : Reg8) (v : Byte) : (s.setReg r v).cycles = s.cycles :=
  (congrArg State.cycles (State.setReg_changes s r v) :)
@[simp] theorem State.setReg_draws (s : State) (r : Reg8) (v : Byte) : (s.setReg r v).draws = s.draws :=
  (congrArg State.draws (State.setReg_changes s r v) :)

/-! ### setF -/

theorem State.setF_changes (s : State) (v : Byte) :
    s.setF v = { s with f := (s.setF v).f } := rfl
@[simp] theorem State.setF_a (s : State) (v : Byte) : (s.setF v).a = s.a :=
  (congrArg State.a (State.setF_changes s v) :)
@[simp] theorem State.setF_b (s : State) (v : Byte) : (s.setF v).b = s.b :=
  (congrArg State.b (State.setF_changes s v) :)
@[simp] theorem State.setF_c (s : State) (v : Byte) : (s.setF v).c = s.c :=
  (congrArg State.c (State.setF_changes s v) :)
@[simp] theorem State.setF_d (s : State) (v : Byte) : (s.setF v).d = s.d :=
  (congrArg State.d (State.setF_changes s v) :)
@[simp] theorem State.setF_e (s : State) (v : Byte) : (s.setF v).e = s.e :=
  (congrArg State.e (State.setF_changes s v) :)
@[simp] theorem State.setF_h (s : State) (v : Byte) : (s.setF v).h = s.h :=
  (congrArg State.h (State.setF_changes s v) :)
@[simp] theorem State.setF_l (s : State) (v : Byte) : (s.setF v).l = s.l :=
  (congrArg State.l (State.setF_changes s v) :)
@[simp] theorem State.setF_sp (s : State) (v : Byte) : (s.setF v).sp = s.sp :=
  (congrArg State.sp (State.setF_changes s v) :)
@[simp] theorem State.setF_pc (s : State) (v : Byte) : (s.setF v).pc = s.pc :=
  (congrArg State.pc (State.setF_changes s v) :)
@[simp] theorem State.setF_ime (s : State) (v : Byte) : (s.setF v).ime = s.ime :=
  (congrArg State.ime (State.setF_changes s v) :)
@[simp] theorem State.setF_eiPending (s : State) (v : Byte) : (s.setF v).eiPending = s.eiPending :=
  (congrArg State.eiPending (State.setF_changes s v) :)
@[simp] theorem State.setF_halted (s : State) (v : Byte) : (s.setF v).halted = s.halted :=
  (congrArg State.halted (State.setF_changes s v) :)
@[simp] theorem State.setF_haltBug (s : State) (v : Byte) : (s.setF v).haltBug = s.haltBug :=
  (congrArg State.haltBug (State.setF_changes s v) :)
@[simp] theorem State.setF_stopped (s : State) (v : Byte) : (s.setF v).stopped = s.stopped :=
  (congrArg State.stopped (State.setF_changes s v) :)
@[simp] theorem State.setF_mem (s : State) (v : Byte) : (s.setF v).mem = s.mem :=
  (congrArg State.mem (State.setF_changes s v) :)
@[simp] theorem State.setF_buttons (s : State) (v : Byte) : (s.setF v).buttons = s.buttons :=
  (congrArg State.buttons (State.setF_changes s v) :)
@[simp] theorem State.setF_mode (s : State) (v : Byte) : (s.setF v).mode = s.mode :=
  (congrArg State.mode (State.setF_changes s v) :)
@[simp] theorem State.setF_dot (s : State) (v : Byte) : (s.setF v).dot = s.dot :=
  (congrArg State.dot (State.setF_changes s v) :)
@[simp] theorem State.setF_line (s : State) (v : Byte) : (s.setF v).line = s.line :=
  (congrArg State.line (State.setF_changes s v) :)
@[simp] theorem State.setF_winLine (s : State) (v : Byte) : (s.setF v).winLine = s.winLine :=
  (congrArg State.winLine (State.setF_changes s v) :)
@[simp] theorem State.setF_cart (s : State) (v : Byte) : (s.setF v).cart = s.cart :=
  (congrArg State.cart (State.setF_changes s v) :)
@[simp] theorem State.setF_frame (s : State) (v : Byte) : (s.setF v).frame = s.frame :=
  (congrArg State.frame (State.setF_changes s v) :)
@[simp] theorem State.setF_frameAcc (s : State) (v : Byte) : (s.setF v).frameAcc = s.frameAcc :=
  (congrArg State.frameAcc (State.setF_changes s v) :)
@[simp] theorem State.setF_cycleCount (s : State) (v : Byte) : (s.setF v).cycleCount = s.cycleCount :=
  (congrArg State.cycleCount (State.setF_changes s v) :)
@[simp] theorem State.setF_cycles (s : State) (v : Byte) : (s.setF v).cycles = s.cycles :=
  (congrArg State.cycles (State.setF_changes s v) :)
@[simp] theorem State.setF_draws (s : State) (v : Byte) : (s.setF v).draws = s.draws :=
  (congrArg State.draws (State.setF_changes s v) :)

/-! ### setFlags -/

theorem State.setFlags_changes (s : State) (z n h c : Bool) :
    s.setFlags z n h c = { s with f := (s.setFlags z n h c).f } := rfl
@[simp] theorem State.setFlags_a (s : State) (z n h c : Bool) : (s.setFlags z n h c).a = s.a :=
  (congrArg State.a (State.setFlags_changes s z n h c) :)
@[simp] theorem State.setFlags_b (s : State) (z n h c : Bool) : (s.setFlags z n h c).b = s.b :=
  (congrArg State.b (State.setFlags_changes s z n h c) :)
@[simp] theorem State.setFlags_c (s : State) (z n h c : Bool) : (s.setFlags z n h c).c = s.c :=
  (congrArg State.c (State.setFlags_changes s z n h c) :)
@[simp] theorem State.setFlags_d (s : State) (z n h c : Bool) : (s.setFlags z n h c).d = s.d :=
  (congrArg State.d (State.setFlags_changes s z n h c) :)
@[simp] theorem State.setFlags_e (s : State) (z n h c : Bool) : (s.setFlags z n h c).e = s.e :=
  (congrArg State.e (State.setFlags_changes s z n h c) :)
@[simp] theorem State.setFlags_h (s : State) (z n h c : Bool) : (s.setFlags z n h c).h = s.h :=
  (congrArg State.h (State.setFlags_changes s z n h c) :)
@[simp] theorem State.setFlags_l (s : State) (z n h c : Bool) : (s.setFlags z n h c).l = s.l :=
  (congrArg State.l (State.setFlags_changes s z n h c) :)
@[simp] theorem State.setFlags_sp (s : State) (z n h c : Bool) : (s.setFlags z n h c).sp = s.sp :=
  (congrArg State.sp (State.setFlags_changes s z n h c) :)
@[simp] theorem State.setFlags_pc (s : State) (z n h c : Bool) : (s.setFlags z n h c).pc = s.pc :=
  (congrArg State.pc (State.setFlags_changes s z n h c) :)
@[simp] theorem State.setFlags_ime (s : State) (z n h c : Bool) : (s.setFlags z n h c).ime = s.ime :=
  (congrArg State.ime (State.setFlags_changes s z n h c) :)
@[simp] theorem State.setFlags_eiPending (s : State) (z n h c : Bool) : (s.setFlags z n h c).eiPending = s.eiPending :=
  (congrArg State.eiPending (State.setFlags_changes s z n h c) :)
@[simp] theorem State.setFlags_halted (s : State) (z n h c : Bool) : (s.setFlags z n h c).halted = s.halted :=
  (congrArg State.halted (State.setFlags_changes s z n h c) :)
@[simp] theorem State.setFlags_haltBug (s : State) (z n h c : Bool) : (s.setFlags z n h c).haltBug = s.haltBug :=
  (congrArg State.haltBug (State.setFlags_changes s z n h c) :)
@[simp] theorem State.setFlags_stopped (s : State) (z n h c : Bool) : (s.setFlags z n h c).stopped = s.stopped :=
  (congrArg State.stopped (State.setFlags_changes s z n h c) :)
@[simp] theorem State.setFlags_mem (s : State) (z n h c : Bool) : (s.setFlags z n h c).mem = s.mem :=
  (congrArg State.mem (State.setFlags_changes s z n h c) :)
@[simp] theorem State.setFlags_buttons (s : State) (z n h c : Bool) : (s.setFlags z n h c).buttons = s.buttons :=
  (congrArg State.buttons (State.setFlags_changes s z n h c) :)
@[simp] theorem State.setFlags_mode (s : State) (z n h c : Bool) : (s.setFlags z n h c).mode = s.mode :=
  (congrArg State.mode (State.setFlags_changes s z n h c) :)
@[simp] theorem State.setFlags_dot (s : State) (z n h c : Bool) : (s.setFlags z n h c).dot = s.dot :=
  (congrArg State.dot (State.setFlags_changes s z n h c) :)
@[simp] theorem State.setFlags_line (s : State) (z n h c : Bool) : (s.setFlags z n h c).line = s.line :=
  (congrArg State.line (State.setFlags_changes s z n h c) :)
@[simp] theorem State.setFlags_winLine (s : State) (z n h c : Bool) : (s.setFlags z n h c).winLine = s.winLine :=
  (congrArg State.winLine (State.setFlags_changes s z n h c) :)
@[simp] theorem State.setFlags_cart (s : State) (z n h c : Bool) : (s.setFlags z n h c).cart = s.cart :=
  (congrArg State.cart (State.setFlags_changes s z n h c) :)
@[simp] theorem State.setFlags_frame (s : State) (z n h c : Bool) : (s.setFlags z n h c).frame = s.frame :=
  (congrArg State.frame (State.setFlags_changes s z n h c) :)
@[simp] theorem State.setFlags_frameAcc (s : State) (z n h c : Bool) : (s.setFlags z n h c).frameAcc = s.frameAcc :=
  (congrArg State.frameAcc (State.setFlags_changes s z n h c) :)
@[simp] theorem State.setFlags_cycleCount (s : State) (z n h c : Bool) : (s.setFlags z n h c).cycleCount = s.cycleCount :=
  (congrArg State.cycleCount (State.setFlags_changes s z n h c) :)
@[simp] theorem State.setFlags_cycles (s : State) (z n h c : Bool) : (s.setFlags z n h c).cycles = s.cycles :=
  (congrArg State.cycles (State.setFlags_changes s z n h c) :)
@[simp] theorem State.setFlags_draws (s : State) (z n h c : Bool) : (s.setFlags z n h c).draws = s.draws :=
  (congrArg State.draws (State.setFlags_changes s z n h c) :)

/-! ### setReg16 -/

theorem State.setReg16_changes (s : State) (r : Reg16) (v : Word) :
    s.setReg16 r v = { s with a := (s.setReg16 r v).a, f := (s.setReg16 r v).f, b := (s.setReg16 r v).b, c := (s.setReg16 r v).c, d := (s.setReg16 r v).d, e := (s.setReg16 r v).e, h := (s.setReg16 r v).h, l := (s.setReg16 r v).l, sp := (s.setReg16 r v).sp } := by cases r <;> rfl
@[simp] theorem State.setReg16_pc (s : State) (r : Reg16) (v : Word) : (s.setReg16 r v).pc = s.pc :=
  (congrArg State.pc (State.setReg16_changes s r v) :)
@[simp] theorem State.setReg16_ime (s : State) (r : Reg16) (v : Word) : (s.setReg16 r v).ime = s.ime :=
  (congrArg State.ime (State.setReg16_changes s r v) :)
@[simp] theorem State.setReg16_eiPending (s : State) (r : Reg16) (v : Word) : (s.setReg16 r v).eiPending = s.eiPending :=
  (congrArg State.eiPending (State.setReg16_changes s r v) :)
@[simp] theorem State.setReg16_halted (s : State) (r : Reg16) (v : Word) : (s.setReg16 r v).halted = s.halted :=
  (congrArg State.halted (State.setReg16_changes s r v) :)
@[simp] theorem State.setReg16_haltBug (s : State) (r : Reg16) (v : Word) : (s.setReg16 r v).haltBug = s.haltBug :=
  (congrArg State.haltBug (State.setReg16_changes s r v) :)
@[simp] theorem State.setReg16_stopped (s : State) (r : Reg16) (v : Word) : (s.setReg16 r v).stopped = s.stopped :=
  (congrArg State.stopped (State.setReg16_changes s r v) :)
@[simp] theorem State.setReg16_mem (s : State) (r : Reg16) (v : Word) : (s.setReg16 r v).mem = s.mem :=
  (congrArg State.mem (State.setReg16_changes s r v) :)
@[simp] theorem State.setReg16_buttons (s : State) (r : Reg16) (v : Word) : (s.setReg16 r v).buttons = s.buttons :=
  (congrArg State.buttons (State.setReg16_changes s r v) :)
@[simp] theorem State.setReg16_mode (s : State) (r : Reg16) (v : Word) : (s.setReg16 r v).mode = s.mode :=
  (congrArg State.mode (State.setReg16_changes s r v) :)
@[simp] theorem State.setReg16_dot (s : State) (r : Reg16) (v : Word) : (s.setReg16 r v).dot = s.dot :=
  (congrArg State.dot (State.setReg16_changes s r v) :)
@[simp] theorem State.setReg16_line (s : State) (r : Reg16) (v : Word) : (s.setReg16 r v).line = s.line :=
  (congrArg State.line (State.setReg16_changes s r v) :)
@[simp] theorem State.setReg16_winLine (s : State) (r : Reg16) (v : Word) : (s.setReg16 r v).winLine = s.winLine :=
  (congrArg State.winLine (State.setReg16_changes s r v) :)
@[simp] theorem State.setReg16_cart (s : State) (r : Reg16) (v : Word) : (s.setReg16 r v).cart = s.cart :=
  (congrArg State.cart (State.setReg16_changes s r v) :)
@[simp] theorem State.setReg16_frame (s : State) (r : Reg16) (v : Word) : (s.setReg16 r v).frame = s.frame :=
  (congrArg State.frame (State.setReg16_changes s r v) :)
@[simp] theorem State.setReg16_frameAcc (s : State) (r : Reg16) (v : Word) : (s.setReg16 r v).frameAcc = s.frameAcc :=
  (congrArg State.frameAcc (State.setReg16_changes s r v) :)
@[simp] theorem State.setReg16_cycleCount (s : State) (r : Reg16) (v : Word) : (s.setReg16 r v).cycleCount = s.cycleCount :=
  (congrArg State.cycleCount (State.setReg16_changes s r v) :)
@[simp] theorem State.setReg16_cycles (s : State) (r : Reg16) (v : Word) : (s.setReg16 r v).cycles = s.cycles :=
  (congrArg State.cycles (State.setReg16_changes s r v) :)
@[simp] theorem State.setReg16_draws (s : State) (r : Reg16) (v : Word) : (s.setReg16 r v).draws = s.draws :=
  (congrArg State.draws (State.setReg16_changes s r v) :)

/-! ### write -/

theorem State.write_changes (s : State) (addr : Word) (v : Byte) :
    s.write addr v = { s with mem := (s.write addr v).mem, cart := (s.write addr v).cart } := by unfold State.write; split <;> rfl
@[simp] theorem State.write_a (s : State) (addr : Word) (v : Byte) : (s.write addr v).a = s.a :=
  (congrArg State.a (State.write_changes s addr v) :)
@[simp] theorem State.write_f (s : State) (addr : Word) (v : Byte) : (s.write addr v).f = s.f :=
  (congrArg State.f (State.write_changes s addr v) :)
@[simp] theorem State.write_b (s : State) (addr : Word) (v : Byte) : (s.write addr v).b = s.b :=
  (congrArg State.b (State.write_changes s addr v) :)
@[simp] theorem State.write_c (s : State) (addr : Word) (v : Byte) : (s.write addr v).c = s.c :=
  (congrArg State.c (State.write_changes s addr v) :)
@[simp] theorem State.write_d (s : State) (addr : Word) (v : Byte) : (s.write addr v).d = s.d :=
  (congrArg State.d (State.write_changes s addr v) :)
@[simp] theorem State.write_e (s : State) (addr : Word) (v : Byte) : (s.write addr v).e = s.e :=
  (congrArg State.e (State.write_changes s addr v) :)
@[simp] theorem State.write_h (s : State) (addr : Word) (v : Byte) : (s.write addr v).h = s.h :=
  (congrArg State.h (State.write_changes s addr v) :)
@[simp] theorem State.write_l (s : State) (addr : Word) (v : Byte) : (s.write addr v).l = s.l :=
  (congrArg State.l (State.write_changes s addr v) :)
@[simp] theorem State.write_sp (s : State) (addr : Word) (v : Byte) : (s.write addr v).sp = s.sp :=
  (congrArg State.sp (State.write_changes s addr v) :)
@[simp] theorem State.write_pc (s : State) (addr : Word) (v : Byte) : (s.write addr v).pc = s.pc :=
  (congrArg State.pc (State.write_changes s addr v) :)
@[simp] theorem State.write_ime (s : State) (addr : Word) (v : Byte) : (s.write addr v).ime = s.ime :=
  (congrArg State.ime (State.write_changes s addr v) :)
@[simp] theorem State.write_eiPending (s : State) (addr : Word) (v : Byte) : (s.write addr v).eiPending = s.eiPending :=
  (congrArg State.eiPending (State.write_changes s addr v) :)
@[simp] theorem State.write_halted (s : State) (addr : Word) (v : Byte) : (s.write addr v).halted = s.halted :=
  (congrArg State.halted (State.write_changes s addr v) :)
@[simp] theorem State.write_haltBug (s : State) (addr : Word) (v : Byte) : (s.write addr v).haltBug = s.haltBug :=
  (congrArg State.haltBug (State.write_changes s addr v) :)
@[simp] theorem State.write_stopped (s : State) (addr : Word) (v : Byte) : (s.write addr v).stopped = s.stopped :=
  (congrArg State.stopped (State.write_changes s addr v) :)
@[simp] theorem State.write_buttons (s : State) (addr : Word) (v : Byte) : (s.write addr v).buttons = s.buttons :=
  (congrArg State.buttons (State.write_changes s addr v) :)
@[simp] theorem State.write_mode (s : State) (addr : Word) (v : Byte) : (s.write addr v).mode = s.mode :=
  (congrArg State.mode (State.write_changes s addr v) :)
@[simp] theorem State.write_dot (s : State) (addr : Word) (v : Byte) : (s.write addr v).dot = s.dot :=
  (congrArg State.dot (State.write_changes s addr v) :)
@[simp] theorem State.write_line (s : State) (addr : Word) (v : Byte) : (s.write addr v).line = s.line :=
  (congrArg State.line (State.write_changes s addr v) :)
@[simp] theorem State.write_winLine (s : State) (addr : Word) (v : Byte) : (s.write addr v).winLine = s.winLine :=
  (congrArg State.winLine (State.write_changes s addr v) :)
@[simp] theorem State.write_frame (s : State) (addr : Word) (v : Byte) : (s.write addr v).frame = s.frame :=
  (congrArg State.frame (State.write_changes s addr v) :)
@[simp] theorem State.write_frameAcc (s : State) (addr : Word) (v : Byte) : (s.write addr v).frameAcc = s.frameAcc :=
  (congrArg State.frameAcc (State.write_changes s addr v) :)
@[simp] theorem State.write_cycleCount (s : State) (addr : Word) (v : Byte) : (s.write addr v).cycleCount = s.cycleCount :=
  (congrArg State.cycleCount (State.write_changes s addr v) :)
@[simp] theorem State.write_cycles (s : State) (addr : Word) (v : Byte) : (s.write addr v).cycles = s.cycles :=
  (congrArg State.cycles (State.write_changes s addr v) :)
@[simp] theorem State.write_draws (s : State) (addr : Word) (v : Byte) : (s.write addr v).draws = s.draws :=
  (congrArg State.draws (State.write_changes s addr v) :)

/-! ### setIo -/

theorem State.setIo_changes (s : State) (k : Nat) (v : Byte) :
    s.setIo k v = { s with mem := (s.setIo k v).mem } := rfl
@[simp] theorem State.setIo_a (s : State) (k : Nat) (v : Byte) : (s.setIo k v).a = s.a :=
  (congrArg State.a (State.setIo_changes s k v) :)
@[simp] theorem State.setIo_f (s : State) (k : Nat) (v : Byte) : (s.setIo k v).f = s.f :=
  (congrArg State.f (State.setIo_changes s k v) :)
@[simp] theorem State.setIo_b (s : State) (k : Nat) (v : Byte) : (s.setIo k v).b = s.b :=
  (congrArg State.b (State.setIo_changes s k v) :)
@[simp] theorem State.setIo_c (s : State) (k : Nat) (v : Byte) : (s.setIo k v).c = s.c :=
  (congrArg State.c (State.setIo_changes s k v) :)
@[simp] theorem State.setIo_d (s : State) (k : Nat) (v : Byte) : (s.setIo k v).d = s.d :=
  (congrArg State.d (State.setIo_changes s k v) :)
@[simp] theorem State.setIo_e (s : State) (k : Nat) (v : Byte) : (s.setIo k v).e = s.e :=
  (congrArg State.e (State.setIo_changes s k v) :)
@[simp] theorem State.setIo_h (s : State) (k : Nat) (v : Byte) : (s.setIo k v).h = s.h :=
  (congrArg State.h (State.setIo_changes s k v) :)
@[simp] theorem State.setIo_l (s : State) (k : Nat) (v : Byte) : (s.setIo k v).l = s.l :=
  (congrArg State.l (State.setIo_changes s k v) :)
@[simp] theorem State.setIo_sp (s : State) (k : Nat) (v : Byte) : (s.setIo k v).sp = s.sp :=
  (congrArg State.sp (State.setIo_changes s k v) :)
@[simp] theorem State.setIo_pc (s : State) (k : Nat) (v : Byte) : (s.setIo k v).pc = s.pc :=
  (congrArg State.pc (State.setIo_changes s k v) :)
@[simp] theorem State.setIo_ime (s : State) (k : Nat) (v : Byte) : (s.setIo k v).ime = s.ime :=
  (congrArg State.ime (State.setIo_changes s k v) :)
@[simp] theorem State.setIo_eiPending (s : State) (k : Nat) (v : Byte) : (s.setIo k v).eiPending = s.eiPending :=
  (congrArg State.eiPending (State.setIo_changes s k v) :)
@[simp] theorem State.setIo_halted (s : State) (k : Nat) (v : Byte) : (s.setIo k v).halted = s.halted :=
  (congrArg State.halted (State.setIo_changes s k v) :)
@[simp] theorem State.setIo_haltBug (s : State) (k : Nat) (v : Byte) : (s.setIo k v).haltBug = s.haltBug :=
  (congrArg State.haltBug (State.setIo_changes s k v) :)
@[simp] theorem State.setIo_stopped (s : State) (k : Nat) (v : Byte) : (s.setIo k v).stopped = s.stopped :=
  (congrArg State.stopped (State.setIo_changes s k v) :)
@[simp] theorem State.setIo_buttons (s : State) (k : Nat) (v : Byte) : (s.setIo k v).buttons = s.buttons :=
  (congrArg State.buttons (State.setIo_changes s k v) :)
@[simp] theorem State.setIo_mode (s : State) (k : Nat) (v : Byte) : (s.setIo k v).mode = s.mode :=
  (congrArg State.mode (State.setIo_changes s k v) :)
@[simp] theorem State.setIo_dot (s : State) (k : Nat) (v : Byte) : (s.setIo k v).dot = s.dot :=
  (congrArg State.dot (State.setIo_changes s k v) :)
@[simp] theorem State.setIo_line (s : State) (k : Nat) (v : Byte) : (s.setIo k v).line = s.line :=
  (congrArg State.line (State.setIo_changes s k v) :)
@[simp] theorem State.setIo_winLine (s : State) (k : Nat) (v : Byte) : (s.setIo k v).winLine = s.winLine :=
  (congrArg State.winLine (State.setIo_changes s k v) :)
@[simp] theorem State.setIo_cart (s : State) (k : Nat) (v : Byte) : (s.setIo k v).cart = s.cart :=
  (congrArg State.cart (State.setIo_changes s k v) :)
@[simp] theorem State.setIo_frame (s : State) (k : Nat) (v : Byte) : (s.setIo k v).frame = s.frame :=
  (congrArg State.frame (State.setIo_changes s k v) :)
@[simp] theorem State.setIo_frameAcc (s : State) (k : Nat) (v : Byte) : (s.setIo k v).frameAcc = s.frameAcc :=
  (congrArg State.frameAcc (State.setIo_changes s k v) :)
@[simp] theorem State.setIo_cycleCount (s : State) (k : Nat) (v : Byte) : (s.setIo k v).cycleCount = s.cycleCount :=
  (congrArg State.cycleCount (State.setIo_changes s k v) :)
@[simp] theorem State.setIo_cycles (s : State) (k : Nat) (v : Byte) : (s.setIo k v).cycles = s.cycles :=
  (congrArg State.cycles (State.setIo_changes s k v) :)
@[simp] theorem State.setIo_draws (s : State) (k : Nat) (v : Byte) : (s.setIo k v).draws = s.draws :=
  (congrArg State.draws (State.setIo_changes s k v) :)

/-! ### push16 -/

theorem State.push16_changes (s : State) (v : Word) :
    s.push16 v = { s with sp := (s.push16 v).sp, mem := (s.push16 v).mem, cart := (s.push16 v).cart } := by apply State.ext <;> first | rfl | simp [State.push16]
@[simp] theorem State.push16_a (s : State) (v : Word) : (s.push16 v).a = s.a :=
  (congrArg State.a (State.push16_changes s v) :)
@[simp] theorem State.push16_f (s : State) (v : Word) : (s.push16 v).f = s.f :=
  (congrArg State.f (State.push16_changes s v) :)
@[simp] theorem State.push16_b (s : State) (v : Word) : (s.push16 v).b = s.b :=
  (congrArg State.b (State.push16_changes s v) :)
@[simp] theorem State.push16_c (s : State) (v : Word) : (s.push16 v).c = s.c :=
  (congrArg State.c (State.push16_changes s v) :)
@[simp] theorem State.push16_d (s : State) (v : Word) : (s.push16 v).d = s.d :=
  (congrArg State.d (State.push16_changes s v) :)
@[simp] theorem State.push16_e (s : State) (v : Word) : (s.push16 v).e = s.e :=
  (congrArg State.e (State.push16_changes s v) :)
@[simp] theorem State.push16_h (s : State) (v : Word) : (s.push16 v).h = s.h :=
  (congrArg State.h (State.push16_changes s v) :)
@[simp] theorem State.push16_l (s : State) (v : Word) : (s.push16 v).l = s.l :=
  (congrArg State.l (State.push16_changes s v) :)
@[simp] theorem State.push16_pc (s : State) (v : Word) : (s.push16 v).pc = s.pc :=
  (congrArg State.pc (State.push16_changes s v) :)
@[simp] theorem State.push16_ime (s : State) (v : Word) : (s.push16 v).ime = s.ime :=
  (congrArg State.ime (State.push16_changes s v) :)
@[simp] theorem State.push16_eiPending (s : State) (v : Word) : (s.push16 v).eiPending = s.eiPending :=
  (congrArg State.eiPending (State.push16_changes s v) :)
@[simp] theorem State.push16_halted (s : State) (v : Word) : (s.push16 v).halted = s.halted :=
  (congrArg State.halted (State.push16_changes s v) :)
@[simp] theorem State.push16_haltBug (s : State) (v : Word) : (s.push16 v).haltBug = s.haltBug :=
  (congrArg State.haltBug (State.push16_changes s v) :)
@[simp] theorem State.push16_stopped (s : State) (v : Word) : (s.push16 v).stopped = s.stopped :=
  (congrArg State.stopped (State.push16_changes s v) :)
@[simp] theorem State.push16_buttons (s : State) (v : Word) : (s.push16 v).buttons = s.buttons :=
  (congrArg State.buttons (State.push16_changes s v) :)
@[simp] theorem State.push16_mode (s : State) (v : Word) : (s.push16 v).mode = s.mode :=
  (congrArg State.mode (State.push16_changes s v) :)
@[simp] theorem State.push16_dot (s : State) (v : Word) : (s.push16 v).dot = s.dot :=
  (congrArg State.dot (State.push16_changes s v) :)
@[simp] theorem State.push16_line (s : State) (v : Word) : (s.push16 v).line = s.line :=
  (congrArg State.line (State.push16_changes s v) :)
@[simp] theorem State.push16_winLine (s : State) (v : Word) : (s.push16 v).winLine = s.winLine :=
  (congrArg State.winLine (State.push16_changes s v) :)
@[simp] theorem State.push16_frame (s : State) (v : Word) : (s.push16 v).frame = s.frame :=
  (congrArg State.frame (State.push16_changes s v) :)
@[simp] theorem State.push16_frameAcc (s : State) (v : Word) : (s.push16 v).frameAcc = s.frameAcc :=
  (congrArg State.frameAcc (State.push16_changes s v) :)
@[simp] theorem State.push16_cycleCount (s : State) (v : Word) : (s.push16 v).cycleCount = s.cycleCount :=
  (congrArg State.cycleCount (State.push16_changes s v) :)
@[simp] theorem State.push16_cycles (s : State) (v : Word) : (s.push16 v).cycles = s.cycles :=
  (congrArg State.cycles (State.push16_changes s v) :)
@[simp] theorem State.push16_draws (s : State) (v : Word) : (s.push16 v).draws = s.draws :=
  (congrArg State.draws (State.push16_changes s v) :)

/-! ### popped -/

theorem State.popped_changes (s : State) :
    s.popped = { s with sp := s.popped.sp } := rfl
@[simp] theorem State.popped_a (s : State) : s.popped.a = s.a :=
  (congrArg State.a (State.popped_changes s) :)
@[simp] theorem State.popped_f (s : State) : s.popped.f = s.f :=
  (congrArg State.f (State.popped_changes s) :)
@[simp] theorem State.popped_b (s : State) : s.popped.b = s.b :=
  (congrArg State.b (State.popped_changes s) :)
@[simp] theorem State.popped_c (s : State) : s.popped.c = s.c :=
  (congrArg State.c (State.popped_changes s) :)
@[simp] theorem State.popped_d (s : State) : s.popped.d = s.d :=
  (congrArg State.d (State.popped_changes s) :)
@[simp] theorem State.popped_e (s : State) : s.popped.e = s.e :=
  (congrArg State.e (State.popped_changes s) :)
@[simp] theorem State.popped_h (s : State) : s.popped.h = s.h :=
  (congrArg State.h (State.popped_changes s) :)
@[simp] theorem State.popped_l (s : State) : s.popped.l = s.l :=
  (congrArg State.l (State.popped_changes s) :)
@[simp] theorem State.popped_pc (s : State) : s.popped.pc = s.pc :=
  (congrArg State.pc (State.popped_changes s) :)
@[simp] theorem State.popped_ime (s : State) : s.popped.ime = s.ime :=
  (congrArg State.ime (State.popped_changes s) :)
@[simp] theorem State.popped_eiPending (s : State) : s.popped.eiPending = s.eiPending :=
  (congrArg State.eiPending (State.popped_changes s) :)
@[simp] theorem State.popped_halted (s : State) : s.popped.halted = s.halted :=
  (congrArg State.halted (State.popped_changes s) :)
@[simp] theorem State.popped_haltBug (s : State) : s.popped.haltBug = s.haltBug :=
  (congrArg State.haltBug (State.popped_changes s) :)
@[simp] theorem State.popped_stopped (s : State) : s.popped.stopped = s.stopped :=
  (congrArg State.stopped (State.popped_changes s) :)
@[simp] theorem State.popped_mem (s : State) : s.popped.mem = s.mem :=
  (congrArg State.mem (State.popped_changes s) :)
@[simp] theorem State.popped_buttons (s : State) : s.popped.buttons = s.buttons :=
  (congrArg State.buttons (State.popped_changes s) :)
@[simp] theorem State.popped_mode (s : State) : s.popped.mode = s.mode :=
  (congrArg State.mode (State.popped_changes s) :)
@[simp] theorem State.popped_dot (s : State) : s.popped.dot = s.dot :=
  (congrArg State.dot (State.popped_changes s) :)
@[simp] theorem State.popped_line (s : State) : s.popped.line = s.line :=
  (congrArg State.line (State.popped_changes s) :)
@[simp] theorem State.popped_winLine (s : State) : s.popped.winLine = s.winLine :=
  (congrArg State.winLine (State.popped_changes s) :)
@[simp] theorem State.popped_cart (s : State) : s.popped.cart = s.cart :=
  (congrArg State.cart (State.popped_changes s) :)
@[simp] theorem State.popped_frame (s : State) : s.popped.frame = s.frame :=
  (congrArg State.frame (State.popped_changes s) :)
@[simp] theorem State.popped_frameAcc (s : State) : s.popped.frameAcc = s.frameAcc :=
  (congrArg State.frameAcc (State.popped_changes s) :)
@[simp] theorem State.popped_cycleCount (s : State) : s.popped.cycleCount = s.cycleCount :=
  (congrArg State.cycleCount (State.popped_changes s) :)
@[simp] theorem State.popped_cycles (s : State) : s.popped.cycles = s.cycles :=
  (congrArg State.cycles (State.popped_changes s) :)
@[simp] theorem State.popped_draws (s : State) : s.popped.draws = s.draws :=
  (congrArg State.draws (State.popped_changes s) :)

/-! ### jump -/

theorem State.jump_changes (s : State) (target : Word) :
    s.jump target = { s with pc := (s.jump target).pc } := rfl
@[simp] theorem State.jump_a (s : State) (target : Word) : (s.jump target).a = s.a :=
  (congrArg State.a (State.jump_changes s target) :)
@[simp] theorem State.jump_f (s : State) (target : Word) : (s.jump target).f = s.f :=
  (congrArg State.f (State.jump_changes s target) :)
@[simp] theorem State.jump_b (s : State) (target : Word) : (s.jump target).b = s.b :=
  (congrArg State.b (State.jump_changes s target) :)
@[simp] theorem State.jump_c (s : State) (target : Word) : (s.jump target).c = s.c :=
  (congrArg State.c (State.jump_changes s target) :)
@[simp] theorem State.jump_d (s : State) (target : Word) : (s.jump target).d = s.d :=
  (congrArg State.d (State.jump_changes s target) :)
@[simp] theorem State.jump_e (s : State) (target : Word) : (s.jump target).e = s.e :=
  (congrArg State.e (State.jump_changes s target) :)
@[simp] theorem State.jump_h (s : State) (target : Word) : (s.jump target).h = s.h :=
  (congrArg State.h (State.jump_changes s target) :)
@[simp] theorem State.jump_l (s : State) (target : Word) : (s.jump target).l = s.l :=
  (congrArg State.l (State.jump_changes s target) :)
@[simp] theorem State.jump_sp (s : State) (target : Word) : (s.jump target).sp = s.sp :=
  (congrArg State.sp (State.jump_changes s target) :)
@[simp] theorem State.jump_ime (s : State) (target : Word) : (s.jump target).ime = s.ime :=
  (congrArg State.ime (State.jump_changes s target) :)
@[simp] theorem State.jump_eiPending (s : State) (target : Word) : (s.jump target).eiPending = s.eiPending :=
  (congrArg State.eiPending (State.jump_changes s target) :)
@[simp] theorem State.jump_halted (s : State) (target : Word) : (s.jump target).halted = s.halted :=
  (congrArg State.halted (State.jump_changes s target) :)
@[simp] theorem State.jump_haltBug (s : State) (target : Word) : (s.jump target).haltBug = s.haltBug :=
  (congrArg State.haltBug (State.jump_changes s target) :)
@[simp] theorem State.jump_stopped (s : State) (target : Word) : (s.jump target).stopped = s.stopped :=
  (congrArg State.stopped (State.jump_changes s target) :)
@[simp] theorem State.jump_mem (s : State) (target : Word) : (s.jump target).mem = s.mem :=
  (congrArg State.mem (State.jump_changes s target) :)
@[simp] theorem State.jump_buttons (s : State) (target : Word) : (s.jump target).buttons = s.buttons :=
  (congrArg State.buttons (State.jump_changes s target) :)
@[simp] theorem State.jump_mode (s : State) (target : Word) : (s.jump target).mode = s.mode :=
  (congrArg State.mode (State.jump_changes s target) :)
@[simp] theorem State.jump_dot (s : State) (target : Word) : (s.jump target).dot = s.dot :=
  (congrArg State.dot (State.jump_changes s target) :)
@[simp] theorem State.jump_line (s : State) (target : Word) : (s.jump target).line = s.line :=
  (congrArg State.line (State.jump_changes s target) :)
@[simp] theorem State.jump_winLine (s : State) (target : Word) : (s.jump target).winLine = s.winLine :=
  (congrArg State.winLine (State.jump_changes s target) :)
@[simp] theorem State.jump_cart (s : State) (target : Word) : (s.jump target).cart = s.cart :=
  (congrArg State.cart (State.jump_changes s target) :)
@[simp] theorem State.jump_frame (s : State) (target : Word) : (s.jump target).frame = s.frame :=
  (congrArg State.frame (State.jump_changes s target) :)
@[simp] theorem State.jump_frameAcc (s : State) (target : Word) : (s.jump target).frameAcc = s.frameAcc :=
  (congrArg State.frameAcc (State.jump_changes s target) :)
@[simp] theorem State.jump_cycleCount (s : State) (target : Word) : (s.jump target).cycleCount = s.cycleCount :=
  (congrArg State.cycleCount (State.jump_changes s target) :)
@[simp] theorem State.jump_cycles (s : State) (target : Word) : (s.jump target).cycles = s.cycles :=
  (congrArg State.cycles (State.jump_changes s target) :)
@[simp] theorem State.jump_draws (s : State) (target : Word) : (s.jump target).draws = s.draws :=
  (congrArg State.draws (State.jump_changes s target) :)

/-! ### request -/

theorem State.request_changes (s : State) (bits : Byte) :
    s.request bits = { s with mem := (s.request bits).mem } := rfl
@[simp] theorem State.request_a (s : State) (bits : Byte) : (s.request bits).a = s.a :=
  (congrArg State.a (State.request_changes s bits) :)
@[simp] theorem State.request_f (s : State) (bits : Byte) : (s.request bits).f = s.f :=
  (congrArg State.f (State.request_changes s bits) :)
@[simp] theorem State.request_b (s : State) (bits : Byte) : (s.request bits).b = s.b :=
  (congrArg State.b (State.request_changes s bits) :)
@[simp] theorem State.request_c (s : State) (bits : Byte) : (s.request bits).c = s.c :=
  (congrArg State.c (State.request_changes s bits) :)
@[simp] theorem State.request_d (s : State) (bits : Byte) : (s.request bits).d = s.d :=
  (congrArg State.d (State.request_changes s bits) :)
@[simp] theorem State.request_e (s : State) (bits : Byte) : (s.request bits).e = s.e :=
  (congrArg State.e (State.request_changes s bits) :)
@[simp] theorem State.request_h (s : State) (bits : Byte) : (s.request bits).h = s.h :=
  (congrArg State.h (State.request_changes s bits) :)
@[simp] theorem State.request_l (s : State) (bits : Byte) : (s.request bits).l = s.l :=
  (congrArg State.l (State.request_changes s bits) :)
@[simp] theorem State.request_sp (s : State) (bits : Byte) : (s.request bits).sp = s.sp :=
  (congrArg State.sp (State.request_changes s bits) :)
@[simp] theorem State.request_pc (s : State) (bits : Byte) : (s.request bits).pc = s.pc :=
  (congrArg State.pc (State.request_changes s bits) :)
@[simp] theorem State.request_ime (s : State) (bits : Byte) : (s.request bits).ime = s.ime :=
  (congrArg State.ime (State.request_changes s bits) :)
@[simp] theorem State.request_eiPending (s : State) (bits : Byte) : (s.request bits).eiPending = s.eiPending :=
  (congrArg State.eiPending (State.request_changes s bits) :)
@[simp] theorem State.request_halted (s : State) (bits : Byte) : (s.request bits).halted = s.halted :=
  (congrArg State.halted (State.request_changes s bits) :)
@[simp] theorem State.request_haltBug (s : State) (bits : Byte) : (s.request bits).haltBug = s.haltBug :=
  (congrArg State.haltBug (State.request_changes s bits) :)
@[simp] theorem State.request_stopped (s : State) (bits : Byte) : (s.request bits).stopped = s.stopped :=
  (congrArg State.stopped (State.request_changes s bits) :)
@[simp] theorem State.request_buttons (s : State) (bits : Byte) : (s.request bits).buttons = s.buttons :=
  (congrArg State.buttons (State.request_changes s bits) :)
@[simp] theorem State.request_mode (s : State) (bits : Byte) : (s.request bits).mode = s.mode :=
  (congrArg State.mode (State.request_changes s bits) :)
@[simp] theorem State.request_dot (s : State) (bits : Byte) : (s.request bits).dot = s.dot :=
  (congrArg State.dot (State.request_changes s bits) :)
@[simp] theorem State.request_line (s : State) (bits : Byte) : (s.request bits).line = s.line :=
  (congrArg State.line (State.request_changes s bits) :)
@[simp] theorem State.request_winLine (s : State) (bits : Byte) : (s.request bits).winLine = s.winLine :=
  (congrArg State.winLine (State.request_changes s bits) :)
@[simp] theorem State.request_cart (s : State) (bits : Byte) : (s.request bits).cart = s.cart :=
  (congrArg State.cart (State.request_changes s bits) :)
@[simp] theorem State.request_frame (s : State) (bits : Byte) : (s.request bits).frame = s.frame :=
  (congrArg State.frame (State.request_changes s bits) :)
@[simp] theorem State.request_frameAcc (s : State) (bits : Byte) : (s.request bits).frameAcc = s.frameAcc :=
  (congrArg State.frameAcc (State.request_changes s bits) :)
@[simp] theorem State.request_cycleCount (s : State) (bits : Byte) : (s.request bits).cycleCount = s.cycleCount :=
  (congrArg State.cycleCount (State.request_changes s bits) :)
@[simp] theorem State.request_cycles (s : State) (bits : Byte) : (s.request bits).cycles = s.cycles :=
  (congrArg State.cycles (State.request_changes s bits) :)
@[simp] theorem State.request_draws (s : State) (bits : Byte) : (s.request bits).draws = s.draws :=
  (congrArg State.draws (State.request_changes s bits) :)

/-! ### requestStat -/

theorem State.requestStat_changes (s : State) (b : Nat) :
    s.requestStat b = { s with mem := (s.requestStat b).mem } := by unfold State.requestStat; split <;> rfl
@[simp] theorem State.requestStat_a (s : State) (b : Nat) : (s.requestStat b).a = s.a :=
  (congrArg State.a (State.requestStat_changes s b) :)
@[simp] theorem State.requestStat_f (s : State) (b : Nat) : (s.requestStat b).f = s.f :=
  (congrArg State.f (State.requestStat_changes s b) :)
@[simp] theorem State.requestStat_b (s : State) (b : Nat) : (s.requestStat b).b = s.b :=
  (congrArg State.b (State.requestStat_changes s b) :)
@[simp] theorem State.requestStat_c (s : State) (b : Nat) : (s.requestStat b).c = s.c :=
  (congrArg State.c (State.requestStat_changes s b) :)
@[simp] theorem State.requestStat_d (s : State) (b : Nat) : (s.requestStat b).d = s.d :=
  (congrArg State.d (State.requestStat_changes s b) :)
@[simp] theorem State.requestStat_e (s : State) (b : Nat) : (s.requestStat b).e = s.e :=
  (congrArg State.e (State.requestStat_changes s b) :)
@[simp] theorem State.requestStat_h (s : State) (b : Nat) : (s.requestStat b).h = s.h :=
  (congrArg State.h (State.requestStat_changes s b) :)
@[simp] theorem State.requestStat_l (s : State) (b : Nat) : (s.requestStat b).l = s.l :=
  (congrArg State.l (State.requestStat_changes s b) :)
@[simp] theorem State.requestStat_sp (s : State) (b : Nat) : (s.requestStat b).sp = s.sp :=
  (congrArg State.sp (State.requestStat_changes s b) :)
@[simp] theorem State.requestStat_pc (s : State) (b : Nat) : (s.requestStat b).pc = s.pc :=
  (congrArg State.pc (State.requestStat_changes s b) :)
@[simp] theorem State.requestStat_ime (s : State) (b : Nat) : (s.requestStat b).ime = s.ime :=
  (congrArg State.ime (State.requestStat_changes s b) :)
@[simp] theorem State.requestStat_eiPending (s : State) (b : Nat) : (s.requestStat b).eiPending = s.eiPending :=
  (congrArg State.eiPending (State.requestStat_changes s b) :)
@[simp] theorem State.requestStat_halted (s : State) (b : Nat) : (s.requestStat b).halted = s.halted :=
  (congrArg State.halted (State.requestStat_changes s b) :)
@[simp] theorem State.requestStat_haltBug (s : State) (b : Nat) : (s.requestStat b).haltBug = s.haltBug :=
  (congrArg State.haltBug (State.requestStat_changes s b) :)
@[simp] theorem State.requestStat_stopped (s : State) (b : Nat) : (s.requestStat b).stopped = s.stopped :=
  (congrArg State.stopped (State.requestStat_changes s b) :)
@[simp] theorem State.requestStat_buttons (s : State) (b : Nat) : (s.requestStat b).buttons = s.buttons :=
  (congrArg State.buttons (State.requestStat_changes s b) :)
@[simp] theorem State.requestStat_mode (s : State) (b : Nat) : (s.requestStat b).mode = s.mode :=
  (congrArg State.mode (State.requestStat_changes s b) :)
@[simp] theorem State.requestStat_dot (s : State) (b : Nat) : (s.requestStat b).dot = s.dot :=
  (congrArg State.dot (State.requestStat_changes s b) :)
@[simp] theorem State.requestStat_line (s : State) (b : Nat) : (s.requestStat b).line = s.line :=
  (congrArg State.line (State.requestStat_changes s b) :)
@[simp] theorem State.requestStat_winLine (s : State) (b : Nat) : (s.requestStat b).winLine = s.winLine :=
  (congrArg State.winLine (State.requestStat_changes s b) :)
@[simp] theorem State.requestStat_cart (s : State) (b : Nat) : (s.requestStat b).cart = s.cart :=
  (congrArg State.cart (State.requestStat_changes s b) :)
@[simp] theorem State.requestStat_frame (s : State) (b : Nat) : (s.requestStat b).frame = s.frame :=
  (congrArg State.frame (State.requestStat_changes s b) :)
@[simp] theorem State.requestStat_frameAcc (s : State) (b : Nat) : (s.requestStat b).frameAcc = s.frameAcc :=
  (congrArg State.frameAcc (State.requestStat_changes s b) :)
@[simp] theorem State.requestStat_cycleCount (s : State) (b : Nat) : (s.requestStat b).cycleCount = s.cycleCount :=
  (congrArg State.cycleCount (State.requestStat_changes s b) :)
@[simp] theorem State.requestStat_cycles (s : State) (b : Nat) : (s.requestStat b).cycles = s.cycles :=
  (congrArg State.cycles (State.requestStat_changes s b) :)
@[simp] theorem State.requestStat_draws (s : State) (b : Nat) : (s.requestStat b).draws = s.draws :=
  (congrArg State.draws (State.requestStat_changes s b) :)

/-! ### setLine -/

theorem State.setLine_changes (s : State) (n : Nat) :
    s.setLine n = { s with line := (s.setLine n).line, mem := (s.setLine n).mem } := by apply State.ext <;> first | rfl | (simp only [State.setLine]; split <;> simp)
@[simp] theorem State.setLine_a (s : State) (n : Nat) : (s.setLine n).a = s.a :=
  (congrArg State.a (State.setLine_changes s n) :)
@[simp] theorem State.setLine_f (s : State) (n : Nat) : (s.setLine n).f = s.f :=
  (congrArg State.f (State.setLine_changes s n) :)
@[simp] theorem State.setLine_b (s : State) (n : Nat) : (s.setLine n).b = s.b :=
  (congrArg State.b (State.setLine_changes s n) :)
@[simp] theorem State.setLine_c (s : State) (n : Nat) : (s.setLine n).c = s.c :=
  (congrArg State.c (State.setLine_changes s n) :)
@[simp] theorem State.setLine_d (s : State) (n : Nat) : (s.setLine n).d = s.d :=
  (congrArg State.d (State.setLine_changes s n) :)
@[simp] theorem State.setLine_e (s : State) (n : Nat) : (s.setLine n).e = s.e :=
  (congrArg State.e (State.setLine_changes s n) :)
@[simp] theorem State.setLine_h (s : State) (n : Nat) : (s.setLine n).h = s.h :=
  (congrArg State.h (State.setLine_changes s n) :)
@[simp] theorem State.setLine_l (s : State) (n : Nat) : (s.setLine n).l = s.l :=
  (congrArg State.l (State.setLine_changes s n) :)
@[simp] theorem State.setLine_sp (s : State) (n : Nat) : (s.setLine n).sp = s.sp :=
  (congrArg State.sp (State.setLine_changes s n) :)
@[simp] theorem State.setLine_pc (s : State) (n : Nat) : (s.setLine n).pc = s.pc :=
  (congrArg State.pc (State.setLine_changes s n) :)
@[simp] theorem State.setLine_ime (s : State) (n : Nat) : (s.setLine n).ime = s.ime :=
  (congrArg State.ime (State.setLine_changes s n) :)
@[simp] theorem State.setLine_eiPending (s : State) (n : Nat) : (s.setLine n).eiPending = s.eiPending :=
  (congrArg State.eiPending (State.setLine_changes s n) :)
@[simp] theorem State.setLine_halted (s : State) (n : Nat) : (s.setLine n).halted = s.halted :=
  (congrArg State.halted (State.setLine_changes s n) :)
@[simp] theorem State.setLine_haltBug (s : State) (n : Nat) : (s.setLine n).haltBug = s.haltBug :=
  (congrArg State.haltBug (State.setLine_changes s n) :)
@[simp] theorem State.setLine_stopped (s : State) (n : Nat) : (s.setLine n).stopped = s.stopped :=
  (congrArg State.stopped (State.setLine_changes s n) :)
@[simp] theorem State.setLine_buttons (s : State) (n : Nat) : (s.setLine n).buttons = s.buttons :=
  (congrArg State.buttons (State.setLine_changes s n) :)
@[simp] theorem State.setLine_mode (s : State) (n : Nat) : (s.setLine n).mode = s.mode :=
  (congrArg State.mode (State.setLine_changes s n) :)
@[simp] theorem State.setLine_dot (s : State) (n : Nat) : (s.setLine n).dot = s.dot :=
  (congrArg State.dot (State.setLine_changes s n) :)
@[simp] theorem State.setLine_winLine (s : State) (n : Nat) : (s.setLine n).winLine = s.winLine :=
  (congrArg State.winLine (State.setLine_changes s n) :)
@[simp] theorem State.setLine_cart (s : State) (n : Nat) : (s.setLine n).cart = s.cart :=
  (congrArg State.cart (State.setLine_changes s n) :)
@[simp] theorem State.setLine_frame (s : State) (n : Nat) : (s.setLine n).frame = s.frame :=
  (congrArg State.frame (State.setLine_changes s n) :)
@[simp] theorem State.setLine_frameAcc (s : State) (n : Nat) : (s.setLine n).frameAcc = s.frameAcc :=
  (congrArg State.frameAcc (State.setLine_changes s n) :)
@[simp] theorem State.setLine_cycleCount (s : State) (n : Nat) : (s.setLine n).cycleCount = s.cycleCount :=
  (congrArg State.cycleCount (State.setLine_changes s n) :)
@[simp] theorem State.setLine_cycles (s : State) (n : Nat) : (s.setLine n).cycles = s.cycles :=
  (congrArg State.cycles (State.setLine_changes s n) :)
@[simp] theorem State.setLine_draws (s : State) (n : Nat) : (s.setLine n).draws = s.draws :=
  (congrArg State.draws (State.setLine_changes s n) :)

/-! ### enterMode -/

theorem State.enterMode_changes (s : State) (m : PpuMode) :
    s.enterMode m = { s with mode := (s.enterMode m).mode, mem := (s.enterMode m).mem } := by apply State.ext <;> cases m <;> first | rfl | simp [State.enterMode]
@[simp] theorem State.enterMode_a (s : State) (m : PpuMode) : (s.enterMode m).a = s.a :=
  (congrArg State.a (State.enterMode_changes s m) :)
@[simp] theorem State.enterMode_f (s : State) (m : PpuMode) : (s.enterMode m).f = s.f :=
  (congrArg State.f (State.enterMode_changes s m) :)
@[simp] theorem State.enterMode_b (s : State) (m : PpuMode) : (s.enterMode m).b = s.b :=
  (congrArg State.b (State.enterMode_changes s m) :)
@[simp] theorem State.enterMode_c (s : State) (m : PpuMode) : (s.enterMode m).c = s.c :=
  (congrArg State.c (State.enterMode_changes s m) :)
@[simp] theorem State.enterMode_d (s : State) (m : PpuMode) : (s.enterMode m).d = s.d :=
  (congrArg State.d (State.enterMode_changes s m) :)
@[simp] theorem State.enterMode_e (s : State) (m : PpuMode) : (s.enterMode m).e = s.e :=
  (congrArg State.e (State.enterMode_changes s m) :)
@[simp] theorem State.enterMode_h (s : State) (m : PpuMode) : (s.enterMode m).h = s.h :=
  (congrArg State.h (State.enterMode_changes s m) :)
@[simp] theorem State.enterMode_l (s : State) (m : PpuMode) : (s.enterMode m).l = s.l :=
  (congrArg State.l (State.enterMode_changes s m) :)
@[simp] theorem State.enterMode_sp (s : State) (m : PpuMode) : (s.enterMode m).sp = s.sp :=
  (congrArg State.sp (State.enterMode_changes s m) :)
@[simp] theorem State.enterMode_pc (s : State) (m : PpuMode) : (s.enterMode m).pc = s.pc :=
  (congrArg State.pc (State.enterMode_changes s m) :)
@[simp] theorem State.enterMode_ime (s : State) (m : PpuMode) : (s.enterMode m).ime = s.ime :=
  (congrArg State.ime (State.enterMode_changes s m) :)
@[simp] theorem State.enterMode_eiPending (s : State) (m : PpuMode) : (s.enterMode m).eiPending = s.eiPending :=
  (congrArg State.eiPending (State.enterMode_changes s m) :)
@[simp] theorem State.enterMode_halted (s : State) (m : PpuMode) : (s.enterMode m).halted = s.halted :=
  (congrArg State.halted (State.enterMode_changes s m) :)
@[simp] theorem State.enterMode_haltBug (s : State) (m : PpuMode) : (s.enterMode m).haltBug = s.haltBug :=
  (congrArg State.haltBug (State.enterMode_changes s m) :)
@[simp] theorem State.enterMode_stopped (s : State) (m : PpuMode) : (s.enterMode m).stopped = s.stopped :=
  (congrArg State.stopped (State.enterMode_changes s m) :)
@[simp] theorem State.enterMode_buttons (s : State) (m : PpuMode) : (s.enterMode m).buttons = s.buttons :=
  (congrArg State.buttons (State.enterMode_changes s m) :)
@[simp] theorem State.enterMode_dot (s : State) (m : PpuMode) : (s.enterMode m).dot = s.dot :=
  (congrArg State.dot (State.enterMode_changes s m) :)
@[simp] theorem State.enterMode_line (s : State) (m : PpuMode) : (s.enterMode m).line = s.line :=
  (congrArg State.line (State.enterMode_changes s m) :)
@[simp] theorem State.enterMode_winLine (s : State) (m : PpuMode) : (s.enterMode m).winLine = s.winLine :=
  (congrArg State.winLine (State.enterMode_changes s m) :)
@[simp] theorem State.enterMode_cart (s : State) (m : PpuMode) : (s.enterMode m).cart = s.cart :=
  (congrArg State.cart (State.enterMode_changes s m) :)
@[simp] theorem State.enterMode_frame (s : State) (m : PpuMode) : (s.enterMode m).frame = s.frame :=
  (congrArg State.frame (State.enterMode_changes s m) :)
@[simp] theorem State.enterMode_frameAcc (s : State) (m : PpuMode) : (s.enterMode m).frameAcc = s.frameAcc :=
  (congrArg State.frameAcc (State.enterMode_changes s m) :)
@[simp] theorem State.enterMode_cycleCount (s : State) (m : PpuMode) : (s.enterMode m).cycleCount = s.cycleCount :=
  (congrArg State.cycleCount (State.enterMode_changes s m) :)
@[simp] theorem State.enterMode_cycles (s : State) (m : PpuMode) : (s.enterMode m).cycles = s.cycles :=
  (congrArg State.cycles (State.enterMode_changes s m) :)
@[simp] theorem State.enterMode_draws (s : State) (m : PpuMode) : (s.enterMode m).draws = s.draws :=
  (congrArg State.draws (State.enterMode_changes s m) :)

/-! ### render -/

theorem State.render_changes (s : State) (ly : Nat) :
    s.render ly = { s with frame := (s.render ly).frame, winLine := (s.render ly).winLine } := by unfold State.render; split <;> rfl
@[simp] theorem State.render_a (s : State) (ly : Nat) : (s.render ly).a = s.a :=
  (congrArg State.a (State.render_changes s ly) :)
@[simp] theorem State.render_f (s : State) (ly : Nat) : (s.render ly).f = s.f :=
  (congrArg State.f (State.render_changes s ly) :)
@[simp] theorem State.render_b (s : State) (ly : Nat) : (s.render ly).b = s.b :=
  (congrArg State.b (State.render_changes s ly) :)
@[simp] theorem State.render_c (s : State) (ly : Nat) : (s.render ly).c = s.c :=
  (congrArg State.c (State.render_changes s ly) :)
@[simp] theorem State.render_d (s : State) (ly : Nat) : (s.render ly).d = s.d :=
  (congrArg State.d (State.render_changes s ly) :)
@[simp] theorem State.render_e (s : State) (ly : Nat) : (s.render ly).e = s.e :=
  (congrArg State.e (State.render_changes s ly) :)
@[simp] theorem State.render_h (s : State) (ly : Nat) : (s.render ly).h = s.h :=
  (congrArg State.h (State.render_changes s ly) :)
@[simp] theorem State.render_l (s : State) (ly : Nat) : (s.render ly).l = s.l :=
  (congrArg State.l (State.render_changes s ly) :)
@[simp] theorem State.render_sp (s : State) (ly : Nat) : (s.render ly).sp = s.sp :=
  (congrArg State.sp (State.render_changes s ly) :)
@[simp] theorem State.render_pc (s : State) (ly : Nat) : (s.render ly).pc = s.pc :=
  (congrArg State.pc (State.render_changes s ly) :)
@[simp] theorem State.render_ime (s : State) (ly : Nat) : (s.render ly).ime = s.ime :=
  (congrArg State.ime (State.render_changes s ly) :)
@[simp] theorem State.render_eiPending (s : State) (ly : Nat) : (s.render ly).eiPending = s.eiPending :=
  (congrArg State.eiPending (State.render_changes s ly) :)
@[simp] theorem State.render_halted (s : State) (ly : Nat) : (s.render ly).halted = s.halted :=
  (congrArg State.halted (State.render_changes s ly) :)
@[simp] theorem State.render_haltBug (s : State) (ly : Nat) : (s.render ly).haltBug = s.haltBug :=
  (congrArg State.haltBug (State.render_changes s ly) :)
@[simp] theorem State.render_stopped (s : State) (ly : Nat) : (s.render ly).stopped = s.stopped :=
  (congrArg State.stopped (State.render_changes s ly) :)
@[simp] theorem State.render_mem (s : State) (ly : Nat) : (s.render ly).mem = s.mem :=
  (congrArg State.mem (State.render_changes s ly) :)
@[simp] theorem State.render_buttons (s : State) (ly : Nat) : (s.render ly).buttons = s.buttons :=
  (congrArg State.buttons (State.render_changes s ly) :)
@[simp] theorem State.render_mode (s : State) (ly : Nat) : (s.render ly).mode = s.mode :=
  (congrArg State.mode (State.render_changes s ly) :)
@[simp] theorem State.render_dot (s : State) (ly : Nat) : (s.render ly).dot = s.dot :=
  (congrArg State.dot (State.render_changes s ly) :)
@[simp] theorem State.render_line (s : State) (ly : Nat) : (s.render ly).line = s.line :=
  (congrArg State.line (State.render_changes s ly) :)
@[simp] theorem State.render_cart (s : State) (ly : Nat) : (s.render ly).cart = s.cart :=
  (congrArg State.cart (State.render_changes s ly) :)
@[simp] theorem State.render_frameAcc (s : State) (ly : Nat) : (s.render ly).frameAcc = s.frameAcc :=
  (congrArg State.frameAcc (State.render_changes s ly) :)
@[simp] theorem State.render_cycleCount (s : State) (ly : Nat) : (s.render ly).cycleCount = s.cycleCount :=
  (congrArg State.cycleCount (State.render_changes s ly) :)
@[simp] theorem State.render_cycles (s : State) (ly : Nat) : (s.render ly).cycles = s.cycles :=
  (congrArg State.cycles (State.render_changes s ly) :)
@[simp] theorem State.render_draws (s : State) (ly : Nat) : (s.render ly).draws = s.draws :=
  (congrArg State.draws (State.render_changes s ly) :)

/-! ### modeEnd -/

theorem State.modeEnd_changes (s : State) :
    s.modeEnd = { s with mode := s.modeEnd.mode, line := s.modeEnd.line, winLine := s.modeEnd.winLine, mem := s.modeEnd.mem, frame := s.modeEnd.frame } := by apply State.ext <;> first | rfl | (unfold State.modeEnd; split <;> (try dsimp only) <;> (try split) <;> simp)
@[simp] theorem State.modeEnd_a (s : State) : s.modeEnd.a = s.a :=
  (congrArg State.a (State.modeEnd_changes s) :)
@[simp] theorem State.modeEnd_f (s : State) : s.modeEnd.f = s.f :=
  (congrArg State.f (State.modeEnd_changes s) :)
@[simp] theorem State.modeEnd_b (s : State) : s.modeEnd.b = s.b :=
  (congrArg State.b (State.modeEnd_changes s) :)
@[simp] theorem State.modeEnd_c (s : State) : s.modeEnd.c = s.c :=
  (congrArg State.c (State.modeEnd_changes s) :)
@[simp] theorem State.modeEnd_d (s : State) : s.modeEnd.d = s.d :=
  (congrArg State.d (State.modeEnd_changes s) :)
@[simp] theorem State.modeEnd_e (s : State) : s.modeEnd.e = s.e :=
  (congrArg State.e (State.modeEnd_changes s) :)
@[simp] theorem State.modeEnd_h (s : State) : s.modeEnd.h = s.h :=
  (congrArg State.h (State.modeEnd_changes s) :)
@[simp] theorem State.modeEnd_l (s : State) : s.modeEnd.l = s.l :=
  (congrArg State.l (State.modeEnd_changes s) :)
@[simp] theorem State.modeEnd_sp (s : State) : s.modeEnd.sp = s.sp :=
  (congrArg State.sp (State.modeEnd_changes s) :)
@[simp] theorem State.modeEnd_pc (s : State) : s.modeEnd.pc = s.pc :=
  (congrArg State.pc (State.modeEnd_changes s) :)
@[simp] theorem State.modeEnd_ime (s : State) : s.modeEnd.ime = s.ime :=
  (congrArg State.ime (State.modeEnd_changes s) :)
@[simp] theorem State.modeEnd_eiPending (s : State) : s.modeEnd.eiPending = s.eiPending :=
  (congrArg State.eiPending (State.modeEnd_changes s) :)
@[simp] theorem State.modeEnd_halted (s : State) : s.modeEnd.halted = s.halted :=
  (congrArg State.halted (State.modeEnd_changes s) :)
@[simp] theorem State.modeEnd_haltBug (s : State) : s.modeEnd.haltBug = s.haltBug :=
  (congrArg State.haltBug (State.modeEnd_changes s) :)
@[simp] theorem State.modeEnd_stopped (s : State) : s.modeEnd.stopped = s.stopped :=
  (congrArg State.stopped (State.modeEnd_changes s) :)
@[simp] theorem State.modeEnd_buttons (s : State) : s.modeEnd.buttons = s.buttons :=
  (congrArg State.buttons (State.modeEnd_changes s) :)
@[simp] theorem State.modeEnd_dot (s : State) : s.modeEnd.dot = s.dot :=
  (congrArg State.dot (State.modeEnd_changes s) :)
@[simp] theorem State.modeEnd_cart (s : State) : s.modeEnd.cart = s.cart :=
  (congrArg State.cart (State.modeEnd_changes s) :)
@[simp] theorem State.modeEnd_frameAcc (s : State) : s.modeEnd.frameAcc = s.frameAcc :=
  (congrArg State.frameAcc (State.modeEnd_changes s) :)
@[simp] theorem State.modeEnd_cycleCount (s : State) : s.modeEnd.cycleCount = s.cycleCount :=
  (congrArg State.cycleCount (State.modeEnd_changes s) :)
@[simp] theorem State.modeEnd_cycles (s : State) : s.modeEnd.cycles = s.cycles :=
  (congrArg State.cycles (State.modeEnd_changes s) :)
@[simp] theorem State.modeEnd_draws (s : State) : s.modeEnd.draws = s.draws :=
  (congrArg State.draws (State.modeEnd_changes s) :)

/-! ### tick -/

theorem State.tick_changes (s : State) :
    s.tick = { s with mode := s.tick.mode, dot := s.tick.dot, line := s.tick.line, winLine := s.tick.winLine, mem := s.tick.mem, frame := s.tick.frame } := by apply State.ext <;> first | rfl | (unfold State.tick; split <;> simp)
@[simp] theorem State.tick_a (s : State) : s.tick.a = s.a :=
  (congrArg State.a (State.tick_changes s) :)
@[simp] theorem State.tick_f (s : State) : s.tick.f = s.f :=
  (congrArg State.f (State.tick_changes s) :)
@[simp] theorem State.tick_b (s : State) : s.tick.b = s.b :=
  (congrArg State.b (State.tick_changes s) :)
@[simp] theorem State.tick_c (s : State) : s.tick.c = s.c :=
  (congrArg State.c (State.tick_changes s) :)
@[simp] theorem State.tick_d (s : State) : s.tick.d = s.d :=
  (congrArg State.d (State.tick_changes s) :)
@[simp] theorem State.tick_e (s : State) : s.tick.e = s.e :=
  (congrArg State.e (State.tick_changes s) :)
@[simp] theorem State.tick_h (s : State) : s.tick.h = s.h :=
  (congrArg State.h (State.tick_changes s) :)
@[simp] theorem State.tick_l (s : State) : s.tick.l = s.l :=
  (congrArg State.l (State.tick_changes s) :)
@[simp] theorem State.tick_sp (s : State) : s.tick.sp = s.sp :=
  (congrArg State.sp (State.tick_changes s) :)
@[simp] theorem State.tick_pc (s : State) : s.tick.pc = s.pc :=
  (congrArg State.pc (State.tick_changes s) :)
@[simp] theorem State.tick_ime (s : State) : s.tick.ime = s.ime :=
  (congrArg State.ime (State.tick_changes s) :)
@[simp] theorem State.tick_eiPending (s : State) : s.tick.eiPending = s.eiPending :=
  (congrArg State.eiPending (State.tick_changes s) :)
@[simp] theorem State.tick_halted (s : State) : s.tick.halted = s.halted :=
  (congrArg State.halted (State.tick_changes s) :)
@[simp] theorem State.tick_haltBug (s : State) : s.tick.haltBug = s.haltBug :=
  (congrArg State.haltBug (State.tick_changes s) :)
@[simp] theorem State.tick_stopped (s : State) : s.tick.stopped = s.stopped :=
  (congrArg State.stopped (State.tick_changes s) :)
@[simp] theorem State.tick_buttons (s : State) : s.tick.buttons = s.buttons :=
  (congrArg State.buttons (State.tick_changes s) :)
@[simp] theorem State.tick_cart (s : State) : s.tick.cart = s.cart :=
  (congrArg State.cart (State.tick_changes s) :)
@[simp] theorem State.tick_frameAcc (s : State) : s.tick.frameAcc = s.frameAcc :=
  (congrArg State.frameAcc (State.tick_changes s) :)
@[simp] theorem State.tick_cycleCount (s : State) : s.tick.cycleCount = s.cycleCount :=
  (congrArg State.cycleCount (State.tick_changes s) :)
@[simp] theorem State.tick_cycles (s : State) : s.tick.cycles = s.cycles :=
  (congrArg State.cycles (State.tick_changes s) :)
@[simp] theorem State.tick_draws (s : State) : s.tick.draws = s.draws :=
  (congrArg State.draws (State.tick_changes s) :)

/-! ### advance -/

theorem State.advance_changes (n : Nat) (s : State) :
    (State.advance n s) = { s with mode := (State.advance n s).mode, dot := (State.advance n s).dot, line := (State.advance n s).line, winLine := (State.advance n s).winLine, mem := (State.advance n s).mem, frame := (State.advance n s).frame } := by
  induction n generalizing s with
  | zero => rfl
  | succ n ih =>
    have h := ih s.tick
    rw [State.advance]
    apply State.ext <;> first | rfl | (rw [h]; simp)
@[simp] theorem State.advance_a (n : Nat) (s : State) : (State.advance n s).a = s.a :=
  (congrArg State.a (State.advance_changes n s) :)
@[simp] theorem State.advance_f (n : Nat) (s : State) : (State.advance n s).f = s.f :=
  (congrArg State.f (State.advance_changes n s) :)
@[simp] theorem State.advance_b (n : Nat) (s : State) : (State.advance n s).b = s.b :=
  (congrArg State.b (State.advance_changes n s) :)
@[simp] theorem State.advance_c (n : Nat) (s : State) : (State.advance n s).c = s.c :=
  (congrArg State.c (State.advance_changes n s) :)
@[simp] theorem State.advance_d (n : Nat) (s : State) : (State.advance n s).d = s.d :=
  (congrArg State.d (State.advance_changes n s) :)
@[simp] theorem State.advance_e (n : Nat) (s : State) : (State.advance n s).e = s.e :=
  (congrArg State.e (State.advance_changes n s) :)
@[simp] theorem State.advance_h (n : Nat) (s : State) : (State.advance n s).h = s.h :=
  (congrArg State.h (State.advance_changes n s) :)
@[simp] theorem State.advance_l (n : Nat) (s : State) : (State.advance n s).l = s.l :=
  (congrArg State.l (State.advance_changes n s) :)
@[simp] theorem State.advance_sp (n : Nat) (s : State) : (State.advance n s).sp = s.sp :=
  (congrArg State.sp (State.advance_changes n s) :)
@[simp] theorem State.advance_pc (n : Nat) (s : State) : (State.advance n s).pc = s.pc :=
  (congrArg State.pc (State.advance_changes n s) :)
@[simp] theorem State.advance_ime (n : Nat) (s : State) : (State.advance n s).ime = s.ime :=
  (congrArg State.ime (State.advance_changes n s) :)
@[simp] theorem State.advance_eiPending (n : Nat) (s : State) : (State.advance n s).eiPending = s.eiPending :=
  (congrArg State.eiPending (State.advance_changes n s) :)
@[simp] theorem State.advance_halted (n : Nat) (s : State) : (State.advance n s).halted = s.halted :=
  (congrArg State.halted (State.advance_changes n s) :)
@[simp] theorem State.advance_haltBug (n : Nat) (s : State) : (State.advance n s).haltBug = s.haltBug :=
  (congrArg State.haltBug (State.advance_changes n s) :)
@[simp] theorem State.advance_stopped (n : Nat) (s : State) : (State.advance n s).stopped = s.stopped :=
  (congrArg State.stopped (State.advance_changes n s) :)
@[simp] theorem State.advance_buttons (n : Nat) (s : State) : (State.advance n s).buttons = s.buttons :=
  (congrArg State.buttons (State.advance_changes n s) :)
@[simp] theorem State.advance_cart (n : Nat) (s : State) : (State.advance n s).cart = s.cart :=
  (congrArg State.cart (State.advance_changes n s) :)
@[simp] theorem State.advance_frameAcc (n : Nat) (s : State) : (State.advance n s).frameAcc = s.frameAcc :=
  (congrArg State.frameAcc (State.advance_changes n s) :)
@[simp] theorem State.advance_cycleCount (n : Nat) (s : State) : (State.advance n s).cycleCount = s.cycleCount :=
  (congrArg State.cycleCount (State.advance_changes n s) :)
@[simp] theorem State.advance_cycles (n : Nat) (s : State) : (State.advance n s).cycles = s.cycles :=
  (congrArg State.cycles (State.advance_changes n s) :)
@[simp] theorem State.advance_draws (n : Nat) (s : State) : (State.advance n s).draws = s.draws :=
  (congrArg State.draws (State.advance_changes n s) :)

/-! ### applyEiDelay -/

theorem State.applyEiDelay_changes (s : State) (pend : Bool) :
    s.applyEiDelay pend = { s with ime := (s.applyEiDelay pend).ime, eiPending := (s.applyEiDelay pend).eiPending } := by unfold State.applyEiDelay; split <;> rfl
@[simp] theorem State.applyEiDelay_a (s : State) (pend : Bool) : (s.applyEiDelay pend).a = s.a :=
  (congrArg State.a (State.applyEiDelay_changes s pend) :)
@[simp] theorem State.applyEiDelay_f (s : State) (pend : Bool) : (s.applyEiDelay pend).f = s.f :=
  (congrArg State.f (State.applyEiDelay_changes s pend) :)
@[simp] theorem State.applyEiDelay_b (s : State) (pend : Bool) : (s.applyEiDelay pend).b = s.b :=
  (congrArg State.b (State.applyEiDelay_changes s pend) :)
@[simp] theorem State.applyEiDelay_c (s : State) (pend : Bool) : (s.applyEiDelay pend).c = s.c :=
  (congrArg State.c (State.applyEiDelay_changes s pend) :)
@[simp] theorem State.applyEiDelay_d (s : State) (pend : Bool) : (s.applyEiDelay pend).d = s.d :=
  (congrArg State.d (State.applyEiDelay_changes s pend) :)
@[simp] theorem State.applyEiDelay_e (s : State) (pend : Bool) : (s.applyEiDelay pend).e = s.e :=
  (congrArg State.e (State.applyEiDelay_changes s pend) :)
@[simp] theorem State.applyEiDelay_h (s : State) (pend : Bool) : (s.applyEiDelay pend).h = s.h :=
  (congrArg State.h (State.applyEiDelay_changes s pend) :)
@[simp] theorem State.applyEiDelay_l (s : State) (pend : Bool) : (s.applyEiDelay pend).l = s.l :=
  (congrArg State.l (State.applyEiDelay_changes s pend) :)
@[simp] theorem State.applyEiDelay_sp (s : State) (pend : Bool) : (s.applyEiDelay pend).sp = s.sp :=
  (congrArg State.sp (State.applyEiDelay_changes s pend) :)
@[simp] theorem State.applyEiDelay_pc (s : State) (pend : Bool) : (s.applyEiDelay pend).pc = s.pc :=
  (congrArg State.pc (State.applyEiDelay_changes s pend) :)
@[simp] theorem State.applyEiDelay_halted (s : State) (pend : Bool) : (s.applyEiDelay pend).halted = s.halted :=
  (congrArg State.halted (State.applyEiDelay_changes s pend) :)
@[simp] theorem State.applyEiDelay_haltBug (s : State) (pend : Bool) : (s.applyEiDelay pend).haltBug = s.haltBug :=
  (congrArg State.haltBug (State.applyEiDelay_changes s pend) :)
@[simp] theorem State.applyEiDelay_stopped (s : State) (pend : Bool) : (s.applyEiDelay pend).stopped = s.stopped :=
  (congrArg State.stopped (State.applyEiDelay_changes s pend) :)
@[simp] theorem State.applyEiDelay_mem (s : State) (pend : Bool) : (s.applyEiDelay pend).mem = s.mem :=
  (congrArg State.mem (State.applyEiDelay_changes s pend) :)
@[simp] theorem State.applyEiDelay_buttons (s : State) (pend : Bool) : (s.applyEiDelay pend).buttons = s.buttons :=
  (congrArg State.buttons (State.applyEiDelay_changes s pend) :)
@[simp] theorem State.applyEiDelay_mode (s : State) (pend : Bool) : (s.applyEiDelay pend).mode = s.mode :=
  (congrArg State.mode (State.applyEiDelay_changes s pend) :)
@[simp] theorem State.applyEiDelay_dot (s : State) (pend : Bool) : (s.applyEiDelay pend).dot = s.dot :=
  (congrArg State.dot (State.applyEiDelay_changes s pend) :)
@[simp] theorem State.applyEiDelay_line (s : State) (pend : Bool) : (s.applyEiDelay pend).line = s.line :=
  (congrArg State.line (State.applyEiDelay_changes s pend) :)
@[simp] theorem State.applyEiDelay_winLine (s : State) (pend : Bool) : (s.applyEiDelay pend).winLine = s.winLine :=
  (congrArg State.winLine (State.applyEiDelay_changes s pend) :)
@[simp] theorem State.applyEiDelay_cart (s : State) (pend : Bool) : (s.applyEiDelay pend).cart = s.cart :=
  (congrArg State.cart (State.applyEiDelay_changes s pend) :)
@[simp] theorem State.applyEiDelay_frame (s : State) (pend : Bool) : (s.applyEiDelay pend).frame = s.frame :=
  (congrArg State.frame (State.applyEiDelay_changes s pend) :)
@[simp] theorem State.applyEiDelay_frameAcc (s : State) (pend : Bool) : (s.applyEiDelay pend).frameAcc = s.frameAcc :=
  (congrArg State.frameAcc (State.applyEiDelay_changes s pend) :)
@[simp] theorem State.applyEiDelay_cycleCount (s : State) (pend : Bool) : (s.applyEiDelay pend).cycleCount = s.cycleCount :=
  (congrArg State.cycleCount (State.applyEiDelay_changes s pend) :)
@[simp] theorem State.applyEiDelay_cycles (s : State) (pend : Bool) : (s.applyEiDelay pend).cycles = s.cycles :=
  (congrArg State.cycles (State.applyEiDelay_changes s pend) :)
@[simp] theorem State.applyEiDelay_draws (s : State) (pend : Bool) : (s.applyEiDelay pend).draws = s.draws :=
  (congrArg State.draws (State.applyEiDelay_changes s pend) :)

/-! ### closeFrame -/

theorem State.closeFrame_changes (s : State) :
    s.closeFrame = { s with frameAcc := s.closeFrame.frameAcc } := by unfold State.closeFrame; split <;> rfl
@[simp] theorem State.closeFrame_a (s : State) : s.closeFrame.a = s.a :=
  (congrArg State.a (State.closeFrame_changes s) :)
@[simp] theorem State.closeFrame_f (s : State) : s.closeFrame.f = s.f :=
  (congrArg State.f (State.closeFrame_changes s) :)
@[simp] theorem State.closeFrame_b (s : State) : s.closeFrame.b = s.b :=
  (congrArg State.b (State.closeFrame_changes s) :)
@[simp] theorem State.closeFrame_c (s : State) : s.closeFrame.c = s.c :=
  (congrArg State.c (State.closeFrame_changes s) :)
@[simp] theorem State.closeFrame_d (s : State) : s.closeFrame.d = s.d :=
  (congrArg State.d (State.closeFrame_changes s) :)
@[simp] theorem State.closeFrame_e (s : State) : s.closeFrame.e = s.e :=
  (congrArg State.e (State.closeFrame_changes s) :)
@[simp] theorem State.closeFrame_h (s : State) : s.closeFrame.h = s.h :=
  (congrArg State.h (State.closeFrame_changes s) :)
@[simp] theorem State.closeFrame_l (s : State) : s.closeFrame.l = s.l :=
  (congrArg State.l (State.closeFrame_changes s) :)
@[simp] theorem State.closeFrame_sp (s : State) : s.closeFrame.sp = s.sp :=
  (congrArg State.sp (State.closeFrame_changes s) :)
@[simp] theorem State.closeFrame_pc (s : State) : s.closeFrame.pc = s.pc :=
  (congrArg State.pc (State.closeFrame_changes s) :)
@[simp] theorem State.closeFrame_ime (s : State) : s.closeFrame.ime = s.ime :=
  (congrArg State.ime (State.closeFrame_changes s) :)
@[simp] theorem State.closeFrame_eiPending (s : State) : s.closeFrame.eiPending = s.eiPending :=
  (congrArg State.eiPending (State.closeFrame_changes s) :)
@[simp] theorem State.closeFrame_halted (s : State) : s.closeFrame.halted = s.halted :=
  (congrArg State.halted (State.closeFrame_changes s) :)
@[simp] theorem State.closeFrame_haltBug (s : State) : s.closeFrame.haltBug = s.haltBug :=
  (congrArg State.haltBug (State.closeFrame_changes s) :)
@[simp] theorem State.closeFrame_stopped (s : State) : s.closeFrame.stopped = s.stopped :=
  (congrArg State.stopped (State.closeFrame_changes s) :)
@[simp] theorem State.closeFrame_mem (s : State) : s.closeFrame.mem = s.mem :=
  (congrArg State.mem (State.closeFrame_changes s) :)
@[simp] theorem State.closeFrame_buttons (s : State) : s.closeFrame.buttons = s.buttons :=
  (congrArg State.buttons (State.closeFrame_changes s) :)
@[simp] theorem State.closeFrame_mode (s : State) : s.closeFrame.mode = s.mode :=
  (congrArg State.mode (State.closeFrame_changes s) :)
@[simp] theorem State.closeFrame_dot (s : State) : s.closeFrame.dot = s.dot :=
  (congrArg State.dot (State.closeFrame_changes s) :)
@[simp] theorem State.closeFrame_line (s : State) : s.closeFrame.line = s.line :=
  (congrArg State.line (State.closeFrame_changes s) :)
@[simp] theorem State.closeFrame_winLine (s : State) : s.closeFrame.winLine = s.winLine :=
  (congrArg State.winLine (State.closeFrame_changes s) :)
@[simp] theorem State.closeFrame_cart (s : State) : s.closeFrame.cart = s.cart :=
  (congrArg State.cart (State.closeFrame_changes s) :)
@[simp] theorem State.closeFrame_frame (s : State) : s.closeFrame.frame = s.frame :=
  (congrArg State.frame (State.closeFrame_changes s) :)
@[simp] theorem State.closeFrame_cycleCount (s : State) : s.closeFrame.cycleCount = s.cycleCount :=
  (congrArg State.cycleCount (State.closeFrame_changes s) :)
@[simp] theorem State.closeFrame_cycles (s : State) : s.closeFrame.cycles = s.cycles :=
  (congrArg State.cycles (State.closeFrame_changes s) :)
@[simp] theorem State.closeFrame_draws (s : State) : s.closeFrame.draws = s.draws :=
  (congrArg State.draws (State.closeFrame_changes s) :)

/-! ### afterCpu -/

theorem State.afterCpu_changes (s : State) :
    s.afterCpu = { s with mode := s.afterCpu.mode, dot := s.afterCpu.dot, line := s.afterCpu.line, winLine := s.afterCpu.winLine, mem := s.afterCpu.mem, frame := s.afterCpu.frame, frameAcc := s.afterCpu.frameAcc, cycleCount := s.afterCpu.cycleCount } := by apply State.ext <;> first | rfl | simp [State.afterCpu]
@[simp] theorem State.afterCpu_a (s : State) : s.afterCpu.a = s.a :=
  (congrArg State.a (State.afterCpu_changes s) :)
@[simp] theorem State.afterCpu_f (s : State) : s.afterCpu.f = s.f :=
  (congrArg State.f (State.afterCpu_changes s) :)
@[simp] theorem State.afterCpu_b (s : State) : s.afterCpu.b = s.b :=
  (congrArg State.b (State.afterCpu_changes s) :)
@[simp] theorem State.afterCpu_c (s : State) : s.afterCpu.c = s.c :=
  (congrArg State.c (State.afterCpu_changes s) :)
@[simp] theorem State.afterCpu_d (s : State) : s.afterCpu.d = s.d :=
  (congrArg State.d (State.afterCpu_changes s) :)
@[simp] theorem State.afterCpu_e (s : State) : s.afterCpu.e = s.e :=
  (congrArg State.e (State.afterCpu_changes s) :)
@[simp] theorem State.afterCpu_h (s : State) : s.afterCpu.h = s.h :=
  (congrArg State.h (State.afterCpu_changes s) :)
@[simp] theorem State.afterCpu_l (s : State) : s.afterCpu.l = s.l :=
  (congrArg State.l (State.afterCpu_changes s) :)
@[simp] theorem State.afterCpu_sp (s : State) : s.afterCpu.sp = s.sp :=
  (congrArg State.sp (State.afterCpu_changes s) :)
@[simp] theorem State.afterCpu_pc (s : State) : s.afterCpu.pc = s.pc :=
  (congrArg State.pc (State.afterCpu_changes s) :)
@[simp] theorem State.afterCpu_ime (s : State) : s.afterCpu.ime = s.ime :=
  (congrArg State.ime (State.afterCpu_changes s) :)
@[simp] theorem State.afterCpu_eiPending (s : State) : s.afterCpu.eiPending = s.eiPending :=
  (congrArg State.eiPending (State.afterCpu_changes s) :)
@[simp] theorem State.afterCpu_halted (s : State) : s.afterCpu.halted = s.halted :=
  (congrArg State.halted (State.afterCpu_changes s) :)
@[simp] theorem State.afterCpu_haltBug (s : State) : s.afterCpu.haltBug = s.haltBug :=
  (congrArg State.haltBug (State.afterCpu_changes s) :)
@[simp] theorem State.afterCpu_stopped (s : State) : s.afterCpu.stopped = s.stopped :=
  (congrArg State.stopped (State.afterCpu_changes s) :)
@[simp] theorem State.afterCpu_buttons (s : State) : s.afterCpu.buttons = s.buttons :=
  (congrArg State.buttons (State.afterCpu_changes s) :)
@[simp] theorem State.afterCpu_cart (s : State) : s.afterCpu.cart = s.cart :=
  (congrArg State.cart (State.afterCpu_changes s) :)
@[simp] theorem State.afterCpu_cycles (s : State) : s.afterCpu.cycles = s.cycles :=
  (congrArg State.cycles (State.afterCpu_changes s) :)
@[simp] theorem State.afterCpu_draws (s : State) : s.afterCpu.draws = s.draws :=
  (congrArg State.draws (State.afterCpu_changes s) :)

/-! ### dispatch -/

theorem State.dispatch_changes (s : State) (i : Fin 5) :
    s.dispatch i = { s with ime := (s.dispatch i).ime, eiPending := (s.dispatch i).eiPending, halted := (s.dispatch i).halted, haltBug := (s.dispatch i).haltBug, sp := (s.dispatch i).sp, pc := (s.dispatch i).pc, mem := (s.dispatch i).mem, cart := (s.dispatch i).cart, cycles := (s.dispatch i).cycles } := by apply State.ext <;> first | rfl | simp [State.dispatch]
@[simp] theorem State.dispatch_a (s : State) (i : Fin 5) : (s.dispatch i).a = s.a :=
  (congrArg State.a (State.dispatch_changes s i) :)
@[simp] theorem State.dispatch_f (s : State) (i : Fin 5) : (s.dispatch i).f = s.f :=
  (congrArg State.f (State.dispatch_changes s i) :)
@[simp] theorem State.dispatch_b (s : State) (i : Fin 5) : (s.dispatch i).b = s.b :=
  (congrArg State.b (State.dispatch_changes s i) :)
@[simp] theorem State.dispatch_c (s : State) (i : Fin 5) : (s.dispatch i).c = s.c :=
  (congrArg State.c (State.dispatch_changes s i) :)
@[simp] theorem State.dispatch_d (s : State) (i : Fin 5) : (s.dispatch i).d = s.d :=
  (congrArg State.d (State.dispatch_changes s i) :)
@[simp] theorem State.dispatch_e (s : State) (i : Fin 5) : (s.dispatch i).e = s.e :=
  (congrArg State.e (State.dispatch_changes s i) :)
@[simp] theorem State.dispatch_h (s : State) (i : Fin 5) : (s.dispatch i).h = s.h :=
  (congrArg State.h (State.dispatch_changes s i) :)
@[simp] theorem State.dispatch_l (s : State) (i : Fin 5) : (s.dispatch i).l = s.l :=
  (congrArg State.l (State.dispatch_changes s i) :)
@[simp] theorem State.dispatch_stopped (s : State) (i : Fin 5) : (s.dispatch i).stopped = s.stopped :=
  (congrArg State.stopped (State.dispatch_changes s i) :)
@[simp] theorem State.dispatch_buttons (s : State) (i : Fin 5) : (s.dispatch i).buttons = s.buttons :=
  (congrArg State.buttons (State.dispatch_changes s i) :)
@[simp] theorem State.dispatch_mode (s : State) (i : Fin 5) : (s.dispatch i).mode = s.mode :=
  (congrArg State.mode (State.dispatch_changes s i) :)
@[simp] theorem State.dispatch_dot (s : State) (i : Fin 5) : (s.dispatch i).dot = s.dot :=
  (congrArg State.dot (State.dispatch_changes s i) :)
@[simp] theorem State.dispatch_line (s : State) (i : Fin 5) : (s.dispatch i).line = s.line :=
  (congrArg State.line (State.dispatch_changes s i) :)
@[simp] theorem State.dispatch_winLine (s : State) (i : Fin 5) : (s.dispatch i).winLine = s.winLine :=
  (congrArg State.winLine (State.dispatch_changes s i) :)
@[simp] theorem State.dispatch_frame (s : State) (i : Fin 5) : (s.dispatch i).frame = s.frame :=
  (congrArg State.frame (State.dispatch_changes s i) :)
@[simp] theorem State.dispatch_frameAcc (s : State) (i : Fin 5) : (s.dispatch i).frameAcc = s.frameAcc :=
  (congrArg State.frameAcc (State.dispatch_changes s i) :)
@[simp] theorem State.dispatch_cycleCount (s : State) (i : Fin 5) : (s.dispatch i).cycleCount = s.cycleCount :=
  (congrArg State.cycleCount (State.dispatch_changes s i) :)
@[simp] theorem State.dispatch_draws (s : State) (i : Fin 5) : (s.dispatch i).draws = s.draws :=
  (congrArg State.draws (State.dispatch_changes s i) :)

/-! ### fetchByte -/

theorem State.fetchByte_changes (s : State) :
    s.fetchByte.2 = { s with pc := s.fetchByte.2.pc, draws := s.fetchByte.2.draws } := rfl
@[simp] theorem State.fetchByte_a (s : State) : s.fetchByte.2.a = s.a :=
  (congrArg State.a (State.fetchByte_changes s) :)
@[simp] theorem State.fetchByte_f (s : State) : s.fetchByte.2.f = s.f :=
  (congrArg State.f (State.fetchByte_changes s) :)
@[simp] theorem State.fetchByte_b (s : State) : s.fetchByte.2.b = s.b :=
  (congrArg State.b (State.fetchByte_changes s) :)
@[simp] theorem State.fetchByte_c (s : State) : s.fetchByte.2.c = s.c :=
  (congrArg State.c (State.fetchByte_changes s) :)
@[simp] theorem State.fetchByte_d (s : State) : s.fetchByte.2.d = s.d :=
  (congrArg State.d (State.fetchByte_changes s) :)
@[simp] theorem State.fetchByte_e (s : State) : s.fetchByte.2.e = s.e :=
  (congrArg State.e (State.fetchByte_changes s) :)
@[simp] theorem State.fetchByte_h (s : State) : s.fetchByte.2.h = s.h :=
  (congrArg State.h (State.fetchByte_changes s) :)
@[simp] theorem State.fetchByte_l (s : State) : s.fetchByte.2.l = s.l :=
  (congrArg State.l (State.fetchByte_changes s) :)
@[simp] theorem State.fetchByte_sp (s : State) : s.fetchByte.2.sp = s.sp :=
  (congrArg State.sp (State.fetchByte_changes s) :)
@[simp] theorem State.fetchByte_ime (s : State) : s.fetchByte.2.ime = s.ime :=
  (congrArg State.ime (State.fetchByte_changes s) :)
@[simp] theorem State.fetchByte_eiPending (s : State) : s.fetchByte.2.eiPending = s.eiPending :=
  (congrArg State.eiPending (State.fetchByte_changes s) :)
@[simp] theorem State.fetchByte_halted (s : State) : s.fetchByte.2.halted = s.halted :=
  (congrArg State.halted (State.fetchByte_changes s) :)
@[simp] theorem State.fetchByte_haltBug (s : State) : s.fetchByte.2.haltBug = s.haltBug :=
  (congrArg State.haltBug (State.fetchByte_changes s) :)
@[simp] theorem State.fetchByte_stopped (s : State) : s.fetchByte.2.stopped = s.stopped :=
  (congrArg State.stopped (State.fetchByte_changes s) :)
@[simp] theorem State.fetchByte_mem (s : State) : s.fetchByte.2.mem = s.mem :=
  (congrArg State.mem (State.fetchByte_changes s) :)
@[simp] theorem State.fetchByte_buttons (s : State) : s.fetchByte.2.buttons = s.buttons :=
  (congrArg State.buttons (State.fetchByte_changes s) :)
@[simp] theorem State.fetchByte_mode (s : State) : s.fetchByte.2.mode = s.mode :=
  (congrArg State.mode (State.fetchByte_changes s) :)
@[simp] theorem State.fetchByte_dot (s : State) : s.fetchByte.2.dot = s.dot :=
  (congrArg State.dot (State.fetchByte_changes s) :)
@[simp] theorem State.fetchByte_line (s : State) : s.fetchByte.2.line = s.line :=
  (congrArg State.line (State.fetchByte_changes s) :)
@[simp] theorem State.fetchByte_winLine (s : State) : s.fetchByte.2.winLine = s.winLine :=
  (congrArg State.winLine (State.fetchByte_changes s) :)
@[simp] theorem State.fetchByte_cart (s : State) : s.fetchByte.2.cart = s.cart :=
  (congrArg State.cart (State.fetchByte_changes s) :)
@[simp] theorem State.fetchByte_frame (s : State) : s.fetchByte.2.frame = s.frame :=
  (congrArg State.frame (State.fetchByte_changes s) :)
@[simp] theorem State.fetchByte_frameAcc (s : State) : s.fetchByte.2.frameAcc = s.frameAcc :=
  (congrArg State.frameAcc (State.fetchByte_changes s) :)
@[simp] theorem State.fetchByte_cycleCount (s : State) : s.fetchByte.2.cycleCount = s.cycleCount :=
  (congrArg State.cycleCount (State.fetchByte_changes s) :)
@[simp] theorem State.fetchByte_cycles (s : State) : s.fetchByte.2.cycles = s.cycles :=
  (congrArg State.cycles (State.fetchByte_changes s) :)

/-! ### fetchOpcode -/

theorem State.fetchOpcode_changes (s : State) :
    s.fetchOpcode.2 = { s with pc := s.fetchOpcode.2.pc, haltBug := s.fetchOpcode.2.haltBug, draws := s.fetchOpcode.2.draws } := by unfold State.fetchOpcode; split <;> rfl
@[simp] theorem State.fetchOpcode_a (s : State) : s.fetchOpcode.2.a = s.a :=
  (congrArg State.a (State.fetchOpcode_changes s) :)
@[simp] theorem State.fetchOpcode_f (s : State) : s.fetchOpcode.2.f = s.f :=
  (congrArg State.f (State.fetchOpcode_changes s) :)
@[simp] theorem State.fetchOpcode_b (s : State) : s.fetchOpcode.2.b = s.b :=
  (congrArg State.b (State.fetchOpcode_changes s) :)
@[simp] theorem State.fetchOpcode_c (s : State) : s.fetchOpcode.2.c = s.c :=
  (congrArg State.c (State.fetchOpcode_changes s) :)
@[simp] theorem State.fetchOpcode_d (s : State) : s.fetchOpcode.2.d = s.d :=
  (congrArg State.d (State.fetchOpcode_changes s) :)
@[simp] theorem State.fetchOpcode_e (s : State) : s.fetchOpcode.2.e = s.e :=
  (congrArg State.e (State.fetchOpcode_changes s) :)
@[simp] theorem State.fetchOpcode_h (s : State) : s.fetchOpcode.2.h = s.h :=
  (congrArg State.h (State.fetchOpcode_changes s) :)
@[simp] theorem State.fetchOpcode_l (s : State) : s.fetchOpcode.2.l = s.l :=
  (congrArg State.l (State.fetchOpcode_changes s) :)
@[simp] theorem State.fetchOpcode_sp (s : State) : s.fetchOpcode.2.sp = s.sp :=
  (congrArg State.sp (State.fetchOpcode_changes s) :)
@[simp] theorem State.fetchOpcode_ime (s : State) : s.fetchOpcode.2.ime = s.ime :=
  (congrArg State.ime (State.fetchOpcode_changes s) :)
@[simp] theorem State.fetchOpcode_eiPending (s : State) : s.fetchOpcode.2.eiPending = s.eiPending :=
  (congrArg State.eiPending (State.fetchOpcode_changes s) :)
@[simp] theorem State.fetchOpcode_halted (s : State) : s.fetchOpcode.2.halted = s.halted :=
  (congrArg State.halted (State.fetchOpcode_changes s) :)
@[simp] theorem State.fetchOpcode_stopped (s : State) : s.fetchOpcode.2.stopped = s.stopped :=
  (congrArg State.stopped (State.fetchOpcode_changes s) :)
@[simp] theorem State.fetchOpcode_mem (s : State) : s.fetchOpcode.2.mem = s.mem :=
  (congrArg State.mem (State.fetchOpcode_changes s) :)
@[simp] theorem State.fetchOpcode_buttons (s : State) : s.fetchOpcode.2.buttons = s.buttons :=
  (congrArg State.buttons (State.fetchOpcode_changes s) :)
@[simp] theorem State.fetchOpcode_mode (s : State) : s.fetchOpcode.2.mode = s.mode :=
  (congrArg State.mode (State.fetchOpcode_changes s) :)
@[simp] theorem State.fetchOpcode_dot (s : State) : s.fetchOpcode.2.dot = s.dot :=
  (congrArg State.dot (State.fetchOpcode_changes s) :)
@[simp] theorem State.fetchOpcode_line (s : State) : s.fetchOpcode.2.line = s.line :=
  (congrArg State.line (State.fetchOpcode_changes s) :)
@[simp] theorem State.fetchOpcode_winLine (s : State) : s.fetchOpcode.2.winLine = s.winLine :=
  (congrArg State.winLine (State.fetchOpcode_changes s) :)
@[simp] theorem State.fetchOpcode_cart (s : State) : s.fetchOpcode.2.cart = s.cart :=
  (congrArg State.cart (State.fetchOpcode_changes s) :)
@[simp] theorem State.fetchOpcode_frame (s : State) : s.fetchOpcode.2.frame = s.frame :=
  (congrArg State.frame (State.fetchOpcode_changes s) :)
@[simp] theorem State.fetchOpcode_frameAcc (s : State) : s.fetchOpcode.2.frameAcc = s.frameAcc :=
  (congrArg State.frameAcc (State.fetchOpcode_changes s) :)
@[simp] theorem State.fetchOpcode_cycleCount (s : State) : s.fetchOpcode.2.cycleCount = s.cycleCount :=
  (congrArg State.cycleCount (State.fetchOpcode_changes s) :)
@[simp] theorem State.fetchOpcode_cycles (s : State) : s.fetchOpcode.2.cycles = s.cycles :=
  (congrArg State.cycles (State.fetchOpcode_changes s) :)

/-! ### fetchBytes -/

theorem State.fetchBytes_changes (n : Nat) (s : State) :
    (State.fetchBytes n s).2 = { s with pc := (State.fetchBytes n s).2.pc, draws := (State.fetchBytes n s).2.draws } := by
  induction n generalizing s with
  | zero => rfl
  | succ n ih =>
    have h := ih s.fetchByte.2
    simp only [State.fetchBytes]
    apply State.ext <;> first | rfl | (rw [h]; simp)
@[simp] theorem State.fetchBytes_a (n : Nat) (s : State) : (State.fetchBytes n s).2.a = s.a :=
  (congrArg State.a (State.fetchBytes_changes n s) :)
@[simp] theorem State.fetchBytes_f (n : Nat) (s : State) : (State.fetchBytes n s).2.f = s.f :=
  (congrArg State.f (State.fetchBytes_changes n s) :)
@[simp] theorem State.fetchBytes_b (n : Nat) (s : State) : (State.fetchBytes n s).2.b = s.b :=
  (congrArg State.b (State.fetchBytes_changes n s) :)
@[simp] theorem State.fetchBytes_c (n : Nat) (s : State) : (State.fetchBytes n s).2.c = s.c :=
  (congrArg State.c (State.fetchBytes_changes n s) :)
@[simp] theorem State.fetchBytes_d (n : Nat) (s : State) : (State.fetchBytes n s).2.d = s.d :=
  (congrArg State.d (State.fetchBytes_changes n s) :)
@[simp] theorem State.fetchBytes_e (n : Nat) (s : State) : (State.fetchBytes n s).2.e = s.e :=
  (congrArg State.e (State.fetchBytes_changes n s) :)
@[simp] theorem State.fetchBytes_h (n : Nat) (s : State) : (State.fetchBytes n s).2.h = s.h :=
  (congrArg State.h (State.fetchBytes_changes n s) :)
@[simp] theorem State.fetchBytes_l (n : Nat) (s : State) : (State.fetchBytes n s).2.l = s.l :=
  (congrArg State.l (State.fetchBytes_changes n s) :)
@[simp] theorem State.fetchBytes_sp (n : Nat) (s : State) : (State.fetchBytes n s).2.sp = s.sp :=
  (congrArg State.sp (State.fetchBytes_changes n s) :)
@[simp] theorem State.fetchBytes_ime (n : Nat) (s : State) : (State.fetchBytes n s).2.ime = s.ime :=
  (congrArg State.ime (State.fetchBytes_changes n s) :)
@[simp] theorem State.fetchBytes_eiPending (n : Nat) (s : State) : (State.fetchBytes n s).2.eiPending = s.eiPending :=
  (congrArg State.eiPending (State.fetchBytes_changes n s) :)
@[simp] theorem State.fetchBytes_halted (n : Nat) (s : State) : (State.fetchBytes n s).2.halted = s.halted :=
  (congrArg State.halted (State.fetchBytes_changes n s) :)
@[simp] theorem State.fetchBytes_haltBug (n : Nat) (s : State) : (State.fetchBytes n s).2.haltBug = s.haltBug :=
  (congrArg State.haltBug (State.fetchBytes_changes n s) :)
@[simp] theorem State.fetchBytes_stopped (n : Nat) (s : State) : (State.fetchBytes n s).2.stopped = s.stopped :=
  (congrArg State.stopped (State.fetchBytes_changes n s) :)
@[simp] theorem State.fetchBytes_mem (n : Nat) (s : State) : (State.fetchBytes n s).2.mem = s.mem :=
  (congrArg State.mem (State.fetchBytes_changes n s) :)
@[simp] theorem State.fetchBytes_buttons (n : Nat) (s : State) : (State.fetchBytes n s).2.buttons = s.buttons :=
  (congrArg State.buttons (State.fetchBytes_changes n s) :)
@[simp] theorem State.fetchBytes_mode (n : Nat) (s : State) : (State.fetchBytes n s).2.mode = s.mode :=
  (congrArg State.mode (State.fetchBytes_changes n s) :)
@[simp] theorem State.fetchBytes_dot (n : Nat) (s : State) : (State.fetchBytes n s).2.dot = s.dot :=
  (congrArg State.dot (State.fetchBytes_changes n s) :)
@[simp] theorem State.fetchBytes_line (n : Nat) (s : State) : (State.fetchBytes n s).2.line = s.line :=
  (congrArg State.line (State.fetchBytes_changes n s) :)
@[simp] theorem State.fetchBytes_winLine (n : Nat) (s : State) : (State.fetchBytes n s).2.winLine = s.winLine :=
  (congrArg State.winLine (State.fetchBytes_changes n s) :)
@[simp] theorem State.fetchBytes_cart (n : Nat) (s : State) : (State.fetchBytes n s).2.cart = s.cart :=
  (congrArg State.cart (State.fetchBytes_changes n s) :)
@[simp] theorem State.fetchBytes_frame (n : Nat) (s : State) : (State.fetchBytes n s).2.frame = s.frame :=
  (congrArg State.frame (State.fetchBytes_changes n s) :)
@[simp] theorem State.fetchBytes_frameAcc (n : Nat) (s : State) : (State.fetchBytes n s).2.frameAcc = s.frameAcc :=
  (congrArg State.frameAcc (State.fetchBytes_changes n s) :)
@[simp] theorem State.fetchBytes_cycleCount (n : Nat) (s : State) : (State.fetchBytes n s).2.cycleCount = s.cycleCount :=
  (congrArg State.cycleCount (State.fetchBytes_changes n s) :)
@[simp] theorem State.fetchBytes_cycles (n : Nat) (s : State) : (State.fetchBytes n s).2.cycles = s.cycles :=
  (congrArg State.cycles (State.fetchBytes_changes n s) :)

/-! ### fetchInstr -/

theorem State.fetchInstr_changes (s : State) :
    s.fetchInstr.2 = { s with pc := s.fetchInstr.2.pc, haltBug := s.fetchInstr.2.haltBug, draws := s.fetchInstr.2.draws } := by apply State.ext <;> first | rfl | simp [State.fetchInstr]
@[simp] theorem State.fetchInstr_a (s : State) : s.fetchInstr.2.a = s.a :=
  (congrArg State.a (State.fetchInstr_changes s) :)
@[simp] theorem State.fetchInstr_f (s : State) : s.fetchInstr.2.f = s.f :=
  (congrArg State.f (State.fetchInstr_changes s) :)
@[simp] theorem State.fetchInstr_b (s : State) : s.fetchInstr.2.b = s.b :=
  (congrArg State.b (State.fetchInstr_changes s) :)
@[simp] theorem State.fetchInstr_c (s : State) : s.fetchInstr.2.c = s.c :=
  (congrArg State.c (State.fetchInstr_changes s) :)
@[simp] theorem State.fetchInstr_d (s : State) : s.fetchInstr.2.d = s.d :=
  (congrArg State.d (State.fetchInstr_changes s) :)
@[simp] theorem State.fetchInstr_e (s : State) : s.fetchInstr.2.e = s.e :=
  (congrArg State.e (State.fetchInstr_changes s) :)
@[simp] theorem State.fetchInstr_h (s : State) : s.fetchInstr.2.h = s.h :=
  (congrArg State.h (State.fetchInstr_changes s) :)
@[simp] theorem State.fetchInstr_l (s : State) : s.fetchInstr.2.l = s.l :=
  (congrArg State.l (State.fetchInstr_changes s) :)
@[simp] theorem State.fetchInstr_sp (s : State) : s.fetchInstr.2.sp = s.sp :=
  (congrArg State.sp (State.fetchInstr_changes s) :)
@[simp] theorem State.fetchInstr_ime (s : State) : s.fetchInstr.2.ime = s.ime :=
  (congrArg State.ime (State.fetchInstr_changes s) :)
@[simp] theorem State.fetchInstr_eiPending (s : State) : s.fetchInstr.2.eiPending = s.eiPending :=
  (congrArg State.eiPending (State.fetchInstr_changes s) :)
@[simp] theorem State.fetchInstr_halted (s : State) : s.fetchInstr.2.halted = s.halted :=
  (congrArg State.halted (State.fetchInstr_changes s) :)
@[simp] theorem State.fetchInstr_stopped (s : State) : s.fetchInstr.2.stopped = s.stopped :=
  (congrArg State.stopped (State.fetchInstr_changes s) :)
@[simp] theorem State.fetchInstr_mem (s : State) : s.fetchInstr.2.mem = s.mem :=
  (congrArg State.mem (State.fetchInstr_changes s) :)
@[simp] theorem State.fetchInstr_buttons (s : State) : s.fetchInstr.2.buttons = s.buttons :=
  (congrArg State.buttons (State.fetchInstr_changes s) :)
@[simp] theorem State.fetchInstr_mode (s : State) : s.fetchInstr.2.mode = s.mode :=
  (congrArg State.mode (State.fetchInstr_changes s) :)
@[simp] theorem State.fetchInstr_dot (s : State) : s.fetchInstr.2.dot = s.dot :=
  (congrArg State.dot (State.fetchInstr_changes s) :)
@[simp] theorem State.fetchInstr_line (s : State) : s.fetchInstr.2.line = s.line :=
  (congrArg State.line (State.fetchInstr_changes s) :)
@[simp] theorem State.fetchInstr_winLine (s : State) : s.fetchInstr.2.winLine = s.winLine :=
  (congrArg State.winLine (State.fetchInstr_changes s) :)
@[simp] theorem State.fetchInstr_cart (s : State) : s.fetchInstr.2.cart = s.cart :=
  (congrArg State.cart (State.fetchInstr_changes s) :)
@[simp] theorem State.fetchInstr_frame (s : State) : s.fetchInstr.2.frame = s.frame :=
  (congrArg State.frame (State.fetchInstr_changes s) :)
@[simp] theorem State.fetchInstr_frameAcc (s : State) : s.fetchInstr.2.frameAcc = s.frameAcc :=
  (congrArg State.frameAcc (State.fetchInstr_changes s) :)
@[simp] theorem State.fetchInstr_cycleCount (s : State) : s.fetchInstr.2.cycleCount = s.cycleCount :=
  (congrArg State.cycleCount (State.fetchInstr_changes s) :)
@[simp] theorem State.fetchInstr_cycles (s : State) : s.fetchInstr.2.cycles = s.cycles :=
  (congrArg State.cycles (State.fetchInstr_changes s) :)

end Sys2Proof.Machine
end

