-- ==== Sys2Proof/Laws/Ops.lean ====
section
/-! SUPPORT. What each shared operation does, said once: words and bytes, the registers, the flags, the bus write
case by case, the stack and the dispatch as record updates, the cartridge's kinds of RAM target. -/

namespace Sys2Proof.Machine

/-! ## Bytes and words -/

@[simp] theorem hiByte_append (hi lo : Byte) : BitVec.extractLsb' 8 8 (hi ++ lo : Word) = hi := by
  ext i hi'
  simp only [BitVec.getElem_extractLsb', BitVec.getLsbD_append]
  rw [if_neg (by omega)]
  simp [BitVec.getLsbD_eq_getElem hi']

@[simp] theorem loByte_append (hi lo : Byte) : BitVec.extractLsb' 0 8 (hi ++ lo : Word) = lo := by
  ext i hi'
  simp only [BitVec.getElem_extractLsb', BitVec.getLsbD_append]
  rw [if_pos (by omega)]
  simp [BitVec.getLsbD_eq_getElem hi']

@[simp] theorem hiByte_wordOf (hi lo : Byte) : hiByte (wordOf hi lo) = hi := hiByte_append hi lo

@[simp] theorem loByte_wordOf (hi lo : Byte) : loByte (wordOf hi lo) = lo := loByte_append hi lo

theorem append_extract (v : Word) : (BitVec.extractLsb' 8 8 v ++ BitVec.extractLsb' 0 8 v : Word) = v := by
  ext i hi
  simp only [BitVec.getElem_append, BitVec.getElem_extractLsb']
  split
  · simp [BitVec.getLsbD_eq_getElem hi]
  · rw [show 8 + (i - 8) = i by omega]
    simp [BitVec.getLsbD_eq_getElem hi]

@[simp] theorem wordOf_bytes (v : Word) : wordOf (hiByte v) (loByte v) = v := append_extract v

/-- A word is 256 times its high byte plus its low byte. -/
theorem toNat_append (hi lo : Byte) : (hi ++ lo : Word).toNat = 256 * hi.toNat + lo.toNat := by
  have := lo.isLt
  rw [BitVec.toNat_append, ← Nat.shiftLeft_add_eq_or_of_lt (by omega), Nat.shiftLeft_eq]
  omega

/-! ## Registers -/

/-- Reading a register after a write of one (R305). -/
@[simp] theorem State.reg_setReg (s : State) (r q : Reg8) (v : Byte) :
    (s.setReg r v).reg q = if q = r then v else s.reg q := by
  cases r <;> cases q <;> rfl

/-- Reading back a pair just written: the value, F's low nibble cleared in AF (R101, R103). -/
theorem State.reg16_setReg16 (s : State) (r : Reg16) (v : Word) :
    (s.setReg16 r v).reg16 r = match r with
      | .af => wordOf (hiByte v) (loByte v &&& 0xF0#8)
      | _ => v := by
  cases r <;> simp [State.setReg16, State.reg16, State.setF]

@[simp] theorem State.setFlags_f (s : State) (z n h c : Bool) :
    (s.setFlags z n h c).f = packFlags z n h c &&& 0xF0#8 := rfl

/-! ## Flags -/

theorem packFlags_bits (z n h c : Bool) :
    (packFlags z n h c &&& 0xF0#8).getLsbD 7 = z ∧ (packFlags z n h c &&& 0xF0#8).getLsbD 6 = n ∧
    (packFlags z n h c &&& 0xF0#8).getLsbD 5 = h ∧ (packFlags z n h c &&& 0xF0#8).getLsbD 4 = c ∧
    packFlags z n h c &&& 0xF0#8 &&& 0x0F#8 = 0 := by
  cases z <;> cases n <;> cases h <;> cases c <;> decide

@[simp] theorem State.setFlags_flagZ (s : State) (z n h c : Bool) : (s.setFlags z n h c).flagZ = z :=
  (packFlags_bits z n h c).1

@[simp] theorem State.setFlags_flagN (s : State) (z n h c : Bool) : (s.setFlags z n h c).flagN = n :=
  (packFlags_bits z n h c).2.1

@[simp] theorem State.setFlags_flagH (s : State) (z n h c : Bool) : (s.setFlags z n h c).flagH = h :=
  (packFlags_bits z n h c).2.2.1

@[simp] theorem State.setFlags_flagC (s : State) (z n h c : Bool) : (s.setFlags z n h c).flagC = c :=
  (packFlags_bits z n h c).2.2.2.1

/-- Whatever is written to F, its low nibble is 0 (R103). -/
theorem State.setF_low (s : State) (v : Byte) : (s.setF v).f &&& 0x0F#8 = 0 := by
  simp only [State.setF]
  rw [BitVec.and_assoc]
  exact BitVec.and_zero

/-! ## Reads and writes of the bus -/

/-- A read depends on the memory, the cartridge, the buttons and the draw alone. -/
theorem State.read_congr {s t : State} (hm : t.mem = s.mem) (hc : t.cart = s.cart) (hb : t.buttons = s.buttons)
    (hd : t.draws = s.draws) (a : Word) : t.read a = s.read a := by
  unfold State.read State.readAt State.readCartRom State.readCartRam
  rw [hm, hc, hb, hd]

/-- A write is one of four things: a bank command, a byte of cartridge RAM, nothing, a byte of memory. -/
theorem State.write_cases (s : State) (addr : Word) (v : Byte) :
    (regionOf addr = .rom ∧ s.write addr v = { s with cart := s.cart.map fun c => c.writeRom addr.toNat v }) ∨
    (regionOf addr = .extRam ∧ s.write addr v = { s with cart := s.cart.map fun c => c.writeRam addr.toNat v }) ∨
    (regionOf addr = .unusable ∧ s.write addr v = s) ∨
    (regionOf addr ≠ .rom ∧ regionOf addr ≠ .extRam ∧ regionOf addr ≠ .unusable ∧
      s.write addr v = { s with mem := s.mem.write (cellOf addr) v }) := by
  unfold State.write
  cases regionOf addr <;> simp

/-- The regions by natural numbers, the rows of R202. -/
theorem regionOf_toNat (a : Word) : regionOf a =
    if a.toNat < 0x8000 then .rom
    else if a.toNat < 0xA000 then .vram
    else if a.toNat < 0xC000 then .extRam
    else if a.toNat < 0xE000 then .wram
    else if a.toNat < 0xFE00 then .echo
    else if a.toNat < 0xFEA0 then .oam
    else if a.toNat < 0xFF00 then .unusable
    else if a.toNat = 0xFF00 then .joypad
    else if a.toNat < 0xFF80 then .io
    else if a.toNat < 0xFFFF then .hram
    else .ie := by
  have h : (a = 0xFF00#16) = (a.toNat = 0xFF00) := by
    apply propext
    constructor
    · intro h; rw [h]; rfl
    · intro h; exact BitVec.eq_of_toNat_eq h
  unfold regionOf
  simp only [BitVec.lt_def, h]
  rfl

/-- The range of each region. -/
theorem regionOf_range (a : Word) : match regionOf a with
    | .rom => a.toNat < 0x8000
    | .vram => 0x8000 ≤ a.toNat ∧ a.toNat < 0xA000
    | .extRam => 0xA000 ≤ a.toNat ∧ a.toNat < 0xC000
    | .wram => 0xC000 ≤ a.toNat ∧ a.toNat < 0xE000
    | .echo => 0xE000 ≤ a.toNat ∧ a.toNat < 0xFE00
    | .oam => 0xFE00 ≤ a.toNat ∧ a.toNat < 0xFEA0
    | .unusable => 0xFEA0 ≤ a.toNat ∧ a.toNat < 0xFF00
    | .joypad => a.toNat = 0xFF00
    | .io => 0xFF01 ≤ a.toNat ∧ a.toNat < 0xFF80
    | .hram => 0xFF80 ≤ a.toNat ∧ a.toNat < 0xFFFF
    | .ie => a.toNat = 0xFFFF := by
  have hlt := a.isLt
  rw [regionOf_toNat]
  by_cases h1 : a.toNat < 0x8000; · rw [if_pos h1]; exact h1
  rw [if_neg h1]
  by_cases h2 : a.toNat < 0xA000; · rw [if_pos h2]; exact ⟨by omega, h2⟩
  rw [if_neg h2]
  by_cases h3 : a.toNat < 0xC000; · rw [if_pos h3]; exact ⟨by omega, h3⟩
  rw [if_neg h3]
  by_cases h4 : a.toNat < 0xE000; · rw [if_pos h4]; exact ⟨by omega, h4⟩
  rw [if_neg h4]
  by_cases h5 : a.toNat < 0xFE00; · rw [if_pos h5]; exact ⟨by omega, h5⟩
  rw [if_neg h5]
  by_cases h6 : a.toNat < 0xFEA0; · rw [if_pos h6]; exact ⟨by omega, h6⟩
  rw [if_neg h6]
  by_cases h7 : a.toNat < 0xFF00; · rw [if_pos h7]; exact ⟨by omega, h7⟩
  rw [if_neg h7]
  by_cases h8 : a.toNat = 0xFF00; · rw [if_pos h8]; exact h8
  rw [if_neg h8]
  by_cases h9 : a.toNat < 0xFF80; · rw [if_pos h9]; exact ⟨by omega, h9⟩
  rw [if_neg h9]
  by_cases h10 : a.toNat < 0xFFFF; · rw [if_pos h10]; exact ⟨by omega, h10⟩
  rw [if_neg h10]
  show a.toNat = 0xFFFF
  omega

/-- The cell of a storage address is a storage address. -/
theorem cellOf_isStorage (a : Word) (h1 : regionOf a ≠ .rom) (h2 : regionOf a ≠ .extRam)
    (h3 : regionOf a ≠ .unusable) : isStorage (cellOf a) = true := by
  have hr := regionOf_range a
  unfold cellOf isStorage
  simp only [Bool.or_eq_true, Bool.and_eq_true, decide_eq_true_eq]
  cases hreg : regionOf a <;> rw [hreg] at hr h1 h2 h3 <;> simp only [] at hr ⊢ <;>
    first
    | exact absurd rfl h1
    | exact absurd rfl h2
    | exact absurd rfl h3
    | omega

/-- A write keeps the memory canonical and within the storage. -/
theorem State.write_memOk (s : State) (addr : Word) (v : Byte) (h : s.memOk) : (s.write addr v).memOk := by
  rcases s.write_cases addr v with ⟨-, e⟩ | ⟨-, e⟩ | ⟨-, e⟩ | ⟨h1, h2, h3, e⟩
  · rw [e]; exact h
  · rw [e]; exact h
  · rw [e]; exact h
  · rw [e]
    exact ⟨Memory.write_wf _ _ h.1, Memory.write_keysIn _ _ h.2 (cellOf_isStorage addr h1 h2 h3)⟩

/-- So does a write of an I/O cell. -/
theorem State.setIo_memOk (s : State) (k : Nat) (v : Byte) (hk : k < 0x80) (h : s.memOk) : (s.setIo k v).memOk := by
  refine ⟨Memory.write_wf _ _ h.1, Memory.write_keysIn _ _ h.2 ?_⟩
  simp only [isStorage, Bool.or_eq_true, Bool.and_eq_true, decide_eq_true_eq]
  omega

/-- Reading an I/O cell after a write of one. -/
theorem State.io_setIo (s : State) (j k : Nat) (v : Byte) (h : s.memOk) :
    (s.setIo k v).io j = if j = k then v else s.io j := by
  unfold State.io State.setIo
  simp only
  rw [Memory.read_write _ _ _ h.1]
  congr 1
  apply propext
  omega

/-! ## The stack, dispatch and returns -/

theorem State.write_withSp (s : State) (x a : Word) (v : Byte) :
    { s with sp := x }.write a v = { s.write a v with sp := x } := by
  unfold State.write
  split <;> rfl

/-- `Push16` is two writes and SP two lower. -/
theorem State.push16_eq (s : State) (v : Word) :
    s.push16 v = { (s.write (s.sp - 1) (hiByte v)).write (s.sp - 2) (loByte v) with sp := s.sp - 2 } := by
  have h := State.write_withSp s (s.sp - 1) (s.sp - 1) (hiByte v)
  simp only [State.push16, h]
  have h2 := State.write_withSp (s.write (s.sp - 1) (hiByte v)) (s.sp - 2) (s.sp - 2) (loByte v)
  exact h2

/-- A branch answers a next state, either way. -/
theorem State.branch_eq (s : State) (taken : Bool) (thn : State) (n m : Nat) :
    s.branch taken thn n m = .next (if taken then { thn with cycles := n } else { s with cycles := m }) := by
  unfold State.branch State.finish
  cases taken <;> rfl

/-! ## Outcomes -/

@[simp] theorem thenState_next (s : State) (k : State → State) : thenState (.next s) k = .next (k s) := rfl

theorem thenState_eq_next {r : Result} {k : State → State} {t : State} (h : thenState r k = .next t) :
    ∃ s, r = .next s ∧ t = k s := by
  cases r with
  | next s => exact ⟨s, rfl, by cases h; rfl⟩
  | fault x => cases h
  | refused x => cases h

/-! ## The cartridge -/

/-- A write to the RAM window leaves the controller alone. -/
@[simp] theorem Cart.writeRam_ramTarget (c : Cart) (a b : Nat) (v : Byte) :
    (c.writeRam a v).ramTarget b = c.ramTarget b := by
  unfold Cart.writeRam
  split <;> rfl

/-- Only MBC2 has four-bit cells. -/
theorem Cart.mbc2_of_nibble {c : Cart} {a off : Nat} (h : c.ramTarget a = .nibble off) :
    ∃ r, c.ctrl = .mbc2 r ∧ off < 512 := by
  unfold Cart.ramTarget Cart.ramCell at h
  split at h
  · split at h <;> simp at h
  · split at h <;> (try split at h) <;> simp at h
  · rename_i r hr
    split at h <;> simp at h
    exact ⟨r, hr, by omega⟩
  · split at h <;> (try split at h) <;> (try split at h) <;> simp at h
  · split at h <;> (try split at h) <;> simp at h

/-- A cell of cartridge RAM is within the RAM, and not in MBC2. -/
theorem Cart.cell_lt {c : Cart} {a off : Nat} (h : c.ramTarget a = .cell off) :
    off < c.ramSize ∧ ∀ r, c.ctrl ≠ .mbc2 r := by
  have key : ∀ rb, c.ramCell rb a = .cell off → off < c.ramSize := by
    intro rb hc
    unfold Cart.ramCell at hc
    split at hc
    · simp at hc
    · simp only [RamTarget.cell.injEq] at hc
      rw [← hc]
      exact Nat.mod_lt _ (by omega)
  unfold Cart.ramTarget at h
  split at h
  · rename_i hr; exact ⟨key _ h, by simp [hr]⟩
  · rename_i hr; split at h
    · exact ⟨key _ h, by simp [hr]⟩
    · simp at h
  · split at h <;> simp at h
  · rename_i hr; split at h
    · split at h
      · exact ⟨key _ h, by simp [hr]⟩
      · split at h <;> simp at h
    · simp at h
  · rename_i hr; split at h
    · exact ⟨key _ h, by simp [hr]⟩
    · simp at h

/-- A write to a cell of the window changes no read through another target. -/
theorem Cart.readRam_writeRam_other (c : Cart) (rtc : Byte) {a b : Nat} (v : Byte)
    (h : c.ramTarget b ≠ c.ramTarget a) : (c.writeRam a v).readRam rtc b = c.readRam rtc b := by
  unfold Cart.readRam
  rw [Cart.writeRam_ramTarget]
  unfold Cart.writeRam
  cases hb : c.ramTarget b <;> cases ha : c.ramTarget a <;> simp only [] <;> rw [hb, ha] at h <;>
    simp only [ne_eq, RamTarget.cell.injEq, RamTarget.nibble.injEq] at h
  · rw [Memory.read_write_other _ h]
  · obtain ⟨r, hr, -⟩ := Cart.mbc2_of_nibble ha
    exact absurd hr ((Cart.cell_lt hb).2 r)
  · obtain ⟨r, hr, -⟩ := Cart.mbc2_of_nibble hb
    exact absurd hr ((Cart.cell_lt ha).2 r)
  · rw [Memory.read_write_other _ h]

/-- Neither kind of write changes the header or the image. -/
@[simp] theorem Cart.identity_writeRam (c : Cart) (a : Nat) (v : Byte) : (c.writeRam a v).identity = c.identity := by
  unfold Cart.writeRam
  split <;> rfl

@[simp] theorem Cart.identity_writeRom (c : Cart) (a : Nat) (v : Byte) : (c.writeRom a v).identity = c.identity := by
  unfold Cart.writeRom
  split <;> rfl

end Sys2Proof.Machine
end

