-- ==== Sys2Proof/Laws/Cpu.lean ====
section
/-! SUPPORT. The laws of decoding by bytes, of the fetch, and of the choice of an interrupt: what each says once,
so that no proof about a step unfolds them. -/

namespace Sys2Proof

/-- An instruction has one, two or three bytes (R303). -/
theorem opcodeLength_cases (b : Byte) : opcodeLength b = 1 ∨ opcodeLength b = 2 ∨ opcodeLength b = 3 := by
  unfold opcodeLength
  split <;> (try split) <;> simp

/-- The instruction three bytes decode to encodes to as many of them as it has. -/
theorem encode_decode3 (b b1 b2 : Byte) : encode (decode3 b b1 b2) = [b, b1, b2].take (opcodeLength b) := by
  by_cases hcb : b = 0xCB#8
  · subst hcb
    have h : ∀ b1 : Byte, encode (decode3 0xCB#8 b1 0) = [0xCB#8, b1] := by decide +kernel
    exact h b1
  · obtain ⟨n, hn, rfl⟩ : ∃ n, n < 256 ∧ b = BitVec.ofNat 8 n := ⟨b.toNat, b.isLt, by simp⟩
    have e1 : (b2 ++ b1 : Word).extractLsb' 0 8 = b1 := Machine.loByte_append _ _
    have e2 : (b2 ++ b1 : Word).extractLsb' 8 8 = b2 := Machine.hiByte_append _ _
    interval_cases n <;> first | rfl | (exact absurd rfl hcb) | skip
    all_goals
      show _ :: immediateBytes (b2 ++ b1) = _
      unfold immediateBytes
      rw [e1, e2]
      rfl

/-- One-byte instructions ignore the bytes after them. -/
theorem decode3_one {b : Byte} (h : opcodeLength b = 1) (b1 b2 : Byte) : decode3 b b1 b2 = decode3 b 0 0 := by
  obtain ⟨n, hn, rfl⟩ : ∃ n, n < 256 ∧ b = BitVec.ofNat 8 n := ⟨b.toNat, b.isLt, by simp⟩
  interval_cases n <;> first | rfl | (exact absurd h (by decide))

/-- Two-byte instructions ignore a third. -/
theorem decode3_two {b : Byte} (h : opcodeLength b = 2) (b1 b2 : Byte) : decode3 b b1 b2 = decode3 b b1 0 := by
  obtain ⟨n, hn, rfl⟩ : ∃ n, n < 256 ∧ b = BitVec.ofNat 8 n := ⟨b.toNat, b.isLt, by simp⟩
  interval_cases n <;> first | rfl | (exact absurd h (by decide))

namespace Machine

/-- The fetch: the instruction that the three bytes from the pc decode to (the opcode once more after a halt bug),
and the pc past its bytes, one less after a halt bug (R300, R301, R303). -/
theorem State.fetchInstr_eq (s : State) :
    s.fetchInstr =
      (decode3 (s.readAt (s.draws + 1) s.pc) (s.readAt (s.draws + 2) (if s.haltBug = true then s.pc else s.pc + 1))
        (s.readAt (s.draws + 3) ((if s.haltBug = true then s.pc else s.pc + 1) + 1)),
       { s with
          pc := s.pc + BitVec.ofNat 16 (opcodeLength (s.readAt (s.draws + 1) s.pc)) - (if s.haltBug = true then 1 else 0)
          haltBug := false
          draws := s.draws + opcodeLength (s.readAt (s.draws + 1) s.pc) + 1 }) := by
  have ho : s.fetchOpcode.1 = s.readAt (s.draws + 1) s.pc := rfl
  unfold State.fetchInstr
  simp only [ho]
  refine Prod.ext ?_ ?_
  · rcases opcodeLength_cases (s.readAt (s.draws + 1) s.pc) with h | h | h
    · exact (decode3_one h _ _).trans (decode3_one h _ _).symm
    · refine (decode3_two h _ _).trans (Eq.trans ?_ (decode3_two h _ _).symm)
      simp only [h]
      cases hb : s.haltBug <;> simp [State.fetchOpcode, State.fetchBytes, State.fetchByte, State.read, hb] <;> rfl
    · simp only [h]
      cases hb : s.haltBug <;> simp [State.fetchOpcode, State.fetchBytes, State.fetchByte, State.read, hb] <;> rfl
  · rcases opcodeLength_cases (s.readAt (s.draws + 1) s.pc) with h | h | h <;> simp only [h] <;>
      cases hb : s.haltBug <;>
      simp only [State.fetchOpcode, Nat.sub_self, Nat.reduceSub, State.fetchBytes, State.fetchByte, hb, if_true, if_false, Bool.false_eq_true] <;>
      congr 1 <;> bv_omega

/-- No interrupt is chosen exactly when none is pending (R810, R815). -/
theorem lowestBit_pending_none (s : State) : lowestBit s.pending = none ↔ s.pending = 0 := by
  have h : ∀ b : Byte, lowestBit (b &&& 0x1F#8) = none ↔ b &&& 0x1F#8 = 0 := by decide +kernel
  exact h (s.io 0x7F &&& s.io 0x0F)

/-- The lowest set bit is the one chosen (R815). -/
theorem lowestBit_eq_some : ∀ (b : Byte) (i : Fin 5), b.getLsbD i = true → (∀ j, j < i.val → b.getLsbD j = false) →
    lowestBit b = some i := by
  decide +kernel

theorem vectorOf_eq (i : Fin 5) : vectorOf i = BitVec.ofNat 16 (0x40 + 8 * i.val) := by
  revert i
  decide

/-- A write to the bus and a change of the CPU's control bits commute. -/
theorem State.write_withControl (s : State) (i p h b : Bool) (a : Word) (v : Byte) :
    { s with ime := i, eiPending := p, halted := h, haltBug := b }.write a v =
      { s.write a v with ime := i, eiPending := p, halted := h, haltBug := b } := by
  unfold State.write
  split <;> rfl

end Machine

end Sys2Proof
end

