-- ==== Sys2Proof/Laws/PerInstr.lean ====
section
/-! SUPPORT. Per-instruction lemmas about the instruction as syntax. Family EncodedForm: an instruction is well
formed, and its encoding is the bytes of exactly one instruction, as long as R303 says. -/

namespace Sys2Proof.Laws.EncodedForm

/-- Well formed, encoded as the bytes of one instruction (R300), of the length R303 gives the first byte. -/
def Statement (i : Instr) : Prop :=
  i.wellFormed = true ∧ wellFormedBytes (encode i) = true ∧
    (encode i).length = ((encode i).head?.map opcodeLength).getD 0

theorem nop : Statement .nop := ⟨rfl, rfl, rfl⟩
theorem ld_bc_nn (nn : Word) : Statement (.ld_bc_nn nn) := ⟨rfl, rfl, rfl⟩
theorem ld_mbc_a : Statement .ld_mbc_a := ⟨rfl, rfl, rfl⟩
theorem inc_bc : Statement .inc_bc := ⟨rfl, rfl, rfl⟩
theorem inc_b : Statement .inc_b := ⟨rfl, rfl, rfl⟩
theorem dec_b : Statement .dec_b := ⟨rfl, rfl, rfl⟩
theorem ld_b_n (n : Byte) : Statement (.ld_b_n n) := ⟨rfl, rfl, rfl⟩
theorem rlca : Statement .rlca := ⟨rfl, rfl, rfl⟩
theorem ld_mnn_sp (nn : Word) : Statement (.ld_mnn_sp nn) := ⟨rfl, rfl, rfl⟩
theorem add_hl_bc : Statement .add_hl_bc := ⟨rfl, rfl, rfl⟩
theorem ld_a_mbc : Statement .ld_a_mbc := ⟨rfl, rfl, rfl⟩
theorem dec_bc : Statement .dec_bc := ⟨rfl, rfl, rfl⟩
theorem inc_c : Statement .inc_c := ⟨rfl, rfl, rfl⟩
theorem dec_c : Statement .dec_c := ⟨rfl, rfl, rfl⟩
theorem ld_c_n (n : Byte) : Statement (.ld_c_n n) := ⟨rfl, rfl, rfl⟩
theorem rrca : Statement .rrca := ⟨rfl, rfl, rfl⟩
theorem stop (x : Byte) : Statement (.stop x) := ⟨rfl, rfl, rfl⟩
theorem ld_de_nn (nn : Word) : Statement (.ld_de_nn nn) := ⟨rfl, rfl, rfl⟩
theorem ld_mde_a : Statement .ld_mde_a := ⟨rfl, rfl, rfl⟩
theorem inc_de : Statement .inc_de := ⟨rfl, rfl, rfl⟩
theorem inc_d : Statement .inc_d := ⟨rfl, rfl, rfl⟩
theorem dec_d : Statement .dec_d := ⟨rfl, rfl, rfl⟩
theorem ld_d_n (n : Byte) : Statement (.ld_d_n n) := ⟨rfl, rfl, rfl⟩
theorem rla : Statement .rla := ⟨rfl, rfl, rfl⟩
theorem jr_e (e : Byte) : Statement (.jr_e e) := ⟨rfl, rfl, rfl⟩
theorem add_hl_de : Statement .add_hl_de := ⟨rfl, rfl, rfl⟩
theorem ld_a_mde : Statement .ld_a_mde := ⟨rfl, rfl, rfl⟩
theorem dec_de : Statement .dec_de := ⟨rfl, rfl, rfl⟩
theorem inc_e : Statement .inc_e := ⟨rfl, rfl, rfl⟩
theorem dec_e : Statement .dec_e := ⟨rfl, rfl, rfl⟩
theorem ld_e_n (n : Byte) : Statement (.ld_e_n n) := ⟨rfl, rfl, rfl⟩
theorem rra : Statement .rra := ⟨rfl, rfl, rfl⟩
theorem jr_nz_e (e : Byte) : Statement (.jr_nz_e e) := ⟨rfl, rfl, rfl⟩
theorem ld_hl_nn (nn : Word) : Statement (.ld_hl_nn nn) := ⟨rfl, rfl, rfl⟩
theorem ld_mhli_a : Statement .ld_mhli_a := ⟨rfl, rfl, rfl⟩
theorem inc_hl : Statement .inc_hl := ⟨rfl, rfl, rfl⟩
theorem inc_h : Statement .inc_h := ⟨rfl, rfl, rfl⟩
theorem dec_h : Statement .dec_h := ⟨rfl, rfl, rfl⟩
theorem ld_h_n (n : Byte) : Statement (.ld_h_n n) := ⟨rfl, rfl, rfl⟩
theorem daa : Statement .daa := ⟨rfl, rfl, rfl⟩
theorem jr_z_e (e : Byte) : Statement (.jr_z_e e) := ⟨rfl, rfl, rfl⟩
theorem add_hl_hl : Statement .add_hl_hl := ⟨rfl, rfl, rfl⟩
theorem ld_a_mhli : Statement .ld_a_mhli := ⟨rfl, rfl, rfl⟩
theorem dec_hl : Statement .dec_hl := ⟨rfl, rfl, rfl⟩
theorem inc_l : Statement .inc_l := ⟨rfl, rfl, rfl⟩
theorem dec_l : Statement .dec_l := ⟨rfl, rfl, rfl⟩
theorem ld_l_n (n : Byte) : Statement (.ld_l_n n) := ⟨rfl, rfl, rfl⟩
theorem cpl : Statement .cpl := ⟨rfl, rfl, rfl⟩
theorem jr_nc_e (e : Byte) : Statement (.jr_nc_e e) := ⟨rfl, rfl, rfl⟩
theorem ld_sp_nn (nn : Word) : Statement (.ld_sp_nn nn) := ⟨rfl, rfl, rfl⟩
theorem ld_mhld_a : Statement .ld_mhld_a := ⟨rfl, rfl, rfl⟩
theorem inc_sp : Statement .inc_sp := ⟨rfl, rfl, rfl⟩
theorem inc_mhl : Statement .inc_mhl := ⟨rfl, rfl, rfl⟩
theorem dec_mhl : Statement .dec_mhl := ⟨rfl, rfl, rfl⟩
theorem ld_mhl_n (n : Byte) : Statement (.ld_mhl_n n) := ⟨rfl, rfl, rfl⟩
theorem scf : Statement .scf := ⟨rfl, rfl, rfl⟩
theorem jr_c_e (e : Byte) : Statement (.jr_c_e e) := ⟨rfl, rfl, rfl⟩
theorem add_hl_sp : Statement .add_hl_sp := ⟨rfl, rfl, rfl⟩
theorem ld_a_mhld : Statement .ld_a_mhld := ⟨rfl, rfl, rfl⟩
theorem dec_sp : Statement .dec_sp := ⟨rfl, rfl, rfl⟩
theorem inc_a : Statement .inc_a := ⟨rfl, rfl, rfl⟩
theorem dec_a : Statement .dec_a := ⟨rfl, rfl, rfl⟩
theorem ld_a_n (n : Byte) : Statement (.ld_a_n n) := ⟨rfl, rfl, rfl⟩
theorem ccf : Statement .ccf := ⟨rfl, rfl, rfl⟩
theorem ld_b_b : Statement .ld_b_b := ⟨rfl, rfl, rfl⟩
theorem ld_b_c : Statement .ld_b_c := ⟨rfl, rfl, rfl⟩
theorem ld_b_d : Statement .ld_b_d := ⟨rfl, rfl, rfl⟩
theorem ld_b_e : Statement .ld_b_e := ⟨rfl, rfl, rfl⟩
theorem ld_b_h : Statement .ld_b_h := ⟨rfl, rfl, rfl⟩
theorem ld_b_l : Statement .ld_b_l := ⟨rfl, rfl, rfl⟩
theorem ld_b_mhl : Statement .ld_b_mhl := ⟨rfl, rfl, rfl⟩
theorem ld_b_a : Statement .ld_b_a := ⟨rfl, rfl, rfl⟩
theorem ld_c_b : Statement .ld_c_b := ⟨rfl, rfl, rfl⟩
theorem ld_c_c : Statement .ld_c_c := ⟨rfl, rfl, rfl⟩
theorem ld_c_d : Statement .ld_c_d := ⟨rfl, rfl, rfl⟩
theorem ld_c_e : Statement .ld_c_e := ⟨rfl, rfl, rfl⟩
theorem ld_c_h : Statement .ld_c_h := ⟨rfl, rfl, rfl⟩
theorem ld_c_l : Statement .ld_c_l := ⟨rfl, rfl, rfl⟩
theorem ld_c_mhl : Statement .ld_c_mhl := ⟨rfl, rfl, rfl⟩
theorem ld_c_a : Statement .ld_c_a := ⟨rfl, rfl, rfl⟩
theorem ld_d_b : Statement .ld_d_b := ⟨rfl, rfl, rfl⟩
theorem ld_d_c : Statement .ld_d_c := ⟨rfl, rfl, rfl⟩
theorem ld_d_d : Statement .ld_d_d := ⟨rfl, rfl, rfl⟩
theorem ld_d_e : Statement .ld_d_e := ⟨rfl, rfl, rfl⟩
theorem ld_d_h : Statement .ld_d_h := ⟨rfl, rfl, rfl⟩
theorem ld_d_l : Statement .ld_d_l := ⟨rfl, rfl, rfl⟩
theorem ld_d_mhl : Statement .ld_d_mhl := ⟨rfl, rfl, rfl⟩
theorem ld_d_a : Statement .ld_d_a := ⟨rfl, rfl, rfl⟩
theorem ld_e_b : Statement .ld_e_b := ⟨rfl, rfl, rfl⟩
theorem ld_e_c : Statement .ld_e_c := ⟨rfl, rfl, rfl⟩
theorem ld_e_d : Statement .ld_e_d := ⟨rfl, rfl, rfl⟩
theorem ld_e_e : Statement .ld_e_e := ⟨rfl, rfl, rfl⟩
theorem ld_e_h : Statement .ld_e_h := ⟨rfl, rfl, rfl⟩
theorem ld_e_l : Statement .ld_e_l := ⟨rfl, rfl, rfl⟩
theorem ld_e_mhl : Statement .ld_e_mhl := ⟨rfl, rfl, rfl⟩
theorem ld_e_a : Statement .ld_e_a := ⟨rfl, rfl, rfl⟩
theorem ld_h_b : Statement .ld_h_b := ⟨rfl, rfl, rfl⟩
theorem ld_h_c : Statement .ld_h_c := ⟨rfl, rfl, rfl⟩
theorem ld_h_d : Statement .ld_h_d := ⟨rfl, rfl, rfl⟩
theorem ld_h_e : Statement .ld_h_e := ⟨rfl, rfl, rfl⟩
theorem ld_h_h : Statement .ld_h_h := ⟨rfl, rfl, rfl⟩
theorem ld_h_l : Statement .ld_h_l := ⟨rfl, rfl, rfl⟩
theorem ld_h_mhl : Statement .ld_h_mhl := ⟨rfl, rfl, rfl⟩
theorem ld_h_a : Statement .ld_h_a := ⟨rfl, rfl, rfl⟩
theorem ld_l_b : Statement .ld_l_b := ⟨rfl, rfl, rfl⟩
theorem ld_l_c : Statement .ld_l_c := ⟨rfl, rfl, rfl⟩
theorem ld_l_d : Statement .ld_l_d := ⟨rfl, rfl, rfl⟩
theorem ld_l_e : Statement .ld_l_e := ⟨rfl, rfl, rfl⟩
theorem ld_l_h : Statement .ld_l_h := ⟨rfl, rfl, rfl⟩
theorem ld_l_l : Statement .ld_l_l := ⟨rfl, rfl, rfl⟩
theorem ld_l_mhl : Statement .ld_l_mhl := ⟨rfl, rfl, rfl⟩
theorem ld_l_a : Statement .ld_l_a := ⟨rfl, rfl, rfl⟩
theorem ld_mhl_b : Statement .ld_mhl_b := ⟨rfl, rfl, rfl⟩
theorem ld_mhl_c : Statement .ld_mhl_c := ⟨rfl, rfl, rfl⟩
theorem ld_mhl_d : Statement .ld_mhl_d := ⟨rfl, rfl, rfl⟩
theorem ld_mhl_e : Statement .ld_mhl_e := ⟨rfl, rfl, rfl⟩
theorem ld_mhl_h : Statement .ld_mhl_h := ⟨rfl, rfl, rfl⟩
theorem ld_mhl_l : Statement .ld_mhl_l := ⟨rfl, rfl, rfl⟩
theorem halt : Statement .halt := ⟨rfl, rfl, rfl⟩
theorem ld_mhl_a : Statement .ld_mhl_a := ⟨rfl, rfl, rfl⟩
theorem ld_a_b : Statement .ld_a_b := ⟨rfl, rfl, rfl⟩
theorem ld_a_c : Statement .ld_a_c := ⟨rfl, rfl, rfl⟩
theorem ld_a_d : Statement .ld_a_d := ⟨rfl, rfl, rfl⟩
theorem ld_a_e : Statement .ld_a_e := ⟨rfl, rfl, rfl⟩
theorem ld_a_h : Statement .ld_a_h := ⟨rfl, rfl, rfl⟩
theorem ld_a_l : Statement .ld_a_l := ⟨rfl, rfl, rfl⟩
theorem ld_a_mhl : Statement .ld_a_mhl := ⟨rfl, rfl, rfl⟩
theorem ld_a_a : Statement .ld_a_a := ⟨rfl, rfl, rfl⟩
theorem add_a_b : Statement .add_a_b := ⟨rfl, rfl, rfl⟩
theorem add_a_c : Statement .add_a_c := ⟨rfl, rfl, rfl⟩
theorem add_a_d : Statement .add_a_d := ⟨rfl, rfl, rfl⟩
theorem add_a_e : Statement .add_a_e := ⟨rfl, rfl, rfl⟩
theorem add_a_h : Statement .add_a_h := ⟨rfl, rfl, rfl⟩
theorem add_a_l : Statement .add_a_l := ⟨rfl, rfl, rfl⟩
theorem add_a_mhl : Statement .add_a_mhl := ⟨rfl, rfl, rfl⟩
theorem add_a_a : Statement .add_a_a := ⟨rfl, rfl, rfl⟩
theorem adc_a_b : Statement .adc_a_b := ⟨rfl, rfl, rfl⟩
theorem adc_a_c : Statement .adc_a_c := ⟨rfl, rfl, rfl⟩
theorem adc_a_d : Statement .adc_a_d := ⟨rfl, rfl, rfl⟩
theorem adc_a_e : Statement .adc_a_e := ⟨rfl, rfl, rfl⟩
theorem adc_a_h : Statement .adc_a_h := ⟨rfl, rfl, rfl⟩
theorem adc_a_l : Statement .adc_a_l := ⟨rfl, rfl, rfl⟩
theorem adc_a_mhl : Statement .adc_a_mhl := ⟨rfl, rfl, rfl⟩
theorem adc_a_a : Statement .adc_a_a := ⟨rfl, rfl, rfl⟩
theorem sub_b : Statement .sub_b := ⟨rfl, rfl, rfl⟩
theorem sub_c : Statement .sub_c := ⟨rfl, rfl, rfl⟩
theorem sub_d : Statement .sub_d := ⟨rfl, rfl, rfl⟩
theorem sub_e : Statement .sub_e := ⟨rfl, rfl, rfl⟩
theorem sub_h : Statement .sub_h := ⟨rfl, rfl, rfl⟩
theorem sub_l : Statement .sub_l := ⟨rfl, rfl, rfl⟩
theorem sub_mhl : Statement .sub_mhl := ⟨rfl, rfl, rfl⟩
theorem sub_a : Statement .sub_a := ⟨rfl, rfl, rfl⟩
theorem sbc_a_b : Statement .sbc_a_b := ⟨rfl, rfl, rfl⟩
theorem sbc_a_c : Statement .sbc_a_c := ⟨rfl, rfl, rfl⟩
theorem sbc_a_d : Statement .sbc_a_d := ⟨rfl, rfl, rfl⟩
theorem sbc_a_e : Statement .sbc_a_e := ⟨rfl, rfl, rfl⟩
theorem sbc_a_h : Statement .sbc_a_h := ⟨rfl, rfl, rfl⟩
theorem sbc_a_l : Statement .sbc_a_l := ⟨rfl, rfl, rfl⟩
theorem sbc_a_mhl : Statement .sbc_a_mhl := ⟨rfl, rfl, rfl⟩
theorem sbc_a_a : Statement .sbc_a_a := ⟨rfl, rfl, rfl⟩
theorem and_b : Statement .and_b := ⟨rfl, rfl, rfl⟩
theorem and_c : Statement .and_c := ⟨rfl, rfl, rfl⟩
theorem and_d : Statement .and_d := ⟨rfl, rfl, rfl⟩
theorem and_e : Statement .and_e := ⟨rfl, rfl, rfl⟩
theorem and_h : Statement .and_h := ⟨rfl, rfl, rfl⟩
theorem and_l : Statement .and_l := ⟨rfl, rfl, rfl⟩
theorem and_mhl : Statement .and_mhl := ⟨rfl, rfl, rfl⟩
theorem and_a : Statement .and_a := ⟨rfl, rfl, rfl⟩
theorem xor_b : Statement .xor_b := ⟨rfl, rfl, rfl⟩
theorem xor_c : Statement .xor_c := ⟨rfl, rfl, rfl⟩
theorem xor_d : Statement .xor_d := ⟨rfl, rfl, rfl⟩
theorem xor_e : Statement .xor_e := ⟨rfl, rfl, rfl⟩
theorem xor_h : Statement .xor_h := ⟨rfl, rfl, rfl⟩
theorem xor_l : Statement .xor_l := ⟨rfl, rfl, rfl⟩
theorem xor_mhl : Statement .xor_mhl := ⟨rfl, rfl, rfl⟩
theorem xor_a : Statement .xor_a := ⟨rfl, rfl, rfl⟩
theorem or_b : Statement .or_b := ⟨rfl, rfl, rfl⟩
theorem or_c : Statement .or_c := ⟨rfl, rfl, rfl⟩
theorem or_d : Statement .or_d := ⟨rfl, rfl, rfl⟩
theorem or_e : Statement .or_e := ⟨rfl, rfl, rfl⟩
theorem or_h : Statement .or_h := ⟨rfl, rfl, rfl⟩
theorem or_l : Statement .or_l := ⟨rfl, rfl, rfl⟩
theorem or_mhl : Statement .or_mhl := ⟨rfl, rfl, rfl⟩
theorem or_a : Statement .or_a := ⟨rfl, rfl, rfl⟩
theorem cp_b : Statement .cp_b := ⟨rfl, rfl, rfl⟩
theorem cp_c : Statement .cp_c := ⟨rfl, rfl, rfl⟩
theorem cp_d : Statement .cp_d := ⟨rfl, rfl, rfl⟩
theorem cp_e : Statement .cp_e := ⟨rfl, rfl, rfl⟩
theorem cp_h : Statement .cp_h := ⟨rfl, rfl, rfl⟩
theorem cp_l : Statement .cp_l := ⟨rfl, rfl, rfl⟩
theorem cp_mhl : Statement .cp_mhl := ⟨rfl, rfl, rfl⟩
theorem cp_a : Statement .cp_a := ⟨rfl, rfl, rfl⟩
theorem ret_nz : Statement .ret_nz := ⟨rfl, rfl, rfl⟩
theorem pop_bc : Statement .pop_bc := ⟨rfl, rfl, rfl⟩
theorem jp_nz_nn (nn : Word) : Statement (.jp_nz_nn nn) := ⟨rfl, rfl, rfl⟩
theorem jp_nn (nn : Word) : Statement (.jp_nn nn) := ⟨rfl, rfl, rfl⟩
theorem call_nz_nn (nn : Word) : Statement (.call_nz_nn nn) := ⟨rfl, rfl, rfl⟩
theorem push_bc : Statement .push_bc := ⟨rfl, rfl, rfl⟩
theorem add_a_n (n : Byte) : Statement (.add_a_n n) := ⟨rfl, rfl, rfl⟩
theorem rst_00 : Statement .rst_00 := ⟨rfl, rfl, rfl⟩
theorem ret_z : Statement .ret_z := ⟨rfl, rfl, rfl⟩
theorem ret : Statement .ret := ⟨rfl, rfl, rfl⟩
theorem jp_z_nn (nn : Word) : Statement (.jp_z_nn nn) := ⟨rfl, rfl, rfl⟩
theorem call_z_nn (nn : Word) : Statement (.call_z_nn nn) := ⟨rfl, rfl, rfl⟩
theorem call_nn (nn : Word) : Statement (.call_nn nn) := ⟨rfl, rfl, rfl⟩
theorem adc_a_n (n : Byte) : Statement (.adc_a_n n) := ⟨rfl, rfl, rfl⟩
theorem rst_08 : Statement .rst_08 := ⟨rfl, rfl, rfl⟩
theorem ret_nc : Statement .ret_nc := ⟨rfl, rfl, rfl⟩
theorem pop_de : Statement .pop_de := ⟨rfl, rfl, rfl⟩
theorem jp_nc_nn (nn : Word) : Statement (.jp_nc_nn nn) := ⟨rfl, rfl, rfl⟩
theorem undefined_d3 : Statement .undefined_d3 := ⟨rfl, rfl, rfl⟩
theorem call_nc_nn (nn : Word) : Statement (.call_nc_nn nn) := ⟨rfl, rfl, rfl⟩
theorem push_de : Statement .push_de := ⟨rfl, rfl, rfl⟩
theorem sub_n (n : Byte) : Statement (.sub_n n) := ⟨rfl, rfl, rfl⟩
theorem rst_10 : Statement .rst_10 := ⟨rfl, rfl, rfl⟩
theorem ret_c : Statement .ret_c := ⟨rfl, rfl, rfl⟩
theorem reti : Statement .reti := ⟨rfl, rfl, rfl⟩
theorem jp_c_nn (nn : Word) : Statement (.jp_c_nn nn) := ⟨rfl, rfl, rfl⟩
theorem undefined_db : Statement .undefined_db := ⟨rfl, rfl, rfl⟩
theorem call_c_nn (nn : Word) : Statement (.call_c_nn nn) := ⟨rfl, rfl, rfl⟩
theorem undefined_dd : Statement .undefined_dd := ⟨rfl, rfl, rfl⟩
theorem sbc_a_n (n : Byte) : Statement (.sbc_a_n n) := ⟨rfl, rfl, rfl⟩
theorem rst_18 : Statement .rst_18 := ⟨rfl, rfl, rfl⟩
theorem ldh_mn_a (n : Byte) : Statement (.ldh_mn_a n) := ⟨rfl, rfl, rfl⟩
theorem pop_hl : Statement .pop_hl := ⟨rfl, rfl, rfl⟩
theorem ld_mc_a : Statement .ld_mc_a := ⟨rfl, rfl, rfl⟩
theorem undefined_e3 : Statement .undefined_e3 := ⟨rfl, rfl, rfl⟩
theorem undefined_e4 : Statement .undefined_e4 := ⟨rfl, rfl, rfl⟩
theorem push_hl : Statement .push_hl := ⟨rfl, rfl, rfl⟩
theorem and_n (n : Byte) : Statement (.and_n n) := ⟨rfl, rfl, rfl⟩
theorem rst_20 : Statement .rst_20 := ⟨rfl, rfl, rfl⟩
theorem add_sp_e (e : Byte) : Statement (.add_sp_e e) := ⟨rfl, rfl, rfl⟩
theorem jp_hl : Statement .jp_hl := ⟨rfl, rfl, rfl⟩
theorem ld_mnn_a (nn : Word) : Statement (.ld_mnn_a nn) := ⟨rfl, rfl, rfl⟩
theorem undefined_eb : Statement .undefined_eb := ⟨rfl, rfl, rfl⟩
theorem undefined_ec : Statement .undefined_ec := ⟨rfl, rfl, rfl⟩
theorem undefined_ed : Statement .undefined_ed := ⟨rfl, rfl, rfl⟩
theorem xor_n (n : Byte) : Statement (.xor_n n) := ⟨rfl, rfl, rfl⟩
theorem rst_28 : Statement .rst_28 := ⟨rfl, rfl, rfl⟩
theorem ldh_a_mn (n : Byte) : Statement (.ldh_a_mn n) := ⟨rfl, rfl, rfl⟩
theorem pop_af : Statement .pop_af := ⟨rfl, rfl, rfl⟩
theorem ld_a_mc : Statement .ld_a_mc := ⟨rfl, rfl, rfl⟩
theorem di : Statement .di := ⟨rfl, rfl, rfl⟩
theorem undefined_f4 : Statement .undefined_f4 := ⟨rfl, rfl, rfl⟩
theorem push_af : Statement .push_af := ⟨rfl, rfl, rfl⟩
theorem or_n (n : Byte) : Statement (.or_n n) := ⟨rfl, rfl, rfl⟩
theorem rst_30 : Statement .rst_30 := ⟨rfl, rfl, rfl⟩
theorem ld_hl_sp_e (e : Byte) : Statement (.ld_hl_sp_e e) := ⟨rfl, rfl, rfl⟩
theorem ld_sp_hl : Statement .ld_sp_hl := ⟨rfl, rfl, rfl⟩
theorem ld_a_mnn (nn : Word) : Statement (.ld_a_mnn nn) := ⟨rfl, rfl, rfl⟩
theorem ei : Statement .ei := ⟨rfl, rfl, rfl⟩
theorem undefined_fc : Statement .undefined_fc := ⟨rfl, rfl, rfl⟩
theorem undefined_fd : Statement .undefined_fd := ⟨rfl, rfl, rfl⟩
theorem cp_n (n : Byte) : Statement (.cp_n n) := ⟨rfl, rfl, rfl⟩
theorem rst_38 : Statement .rst_38 := ⟨rfl, rfl, rfl⟩
theorem rlc_b : Statement .rlc_b := ⟨rfl, rfl, rfl⟩
theorem rlc_c : Statement .rlc_c := ⟨rfl, rfl, rfl⟩
theorem rlc_d : Statement .rlc_d := ⟨rfl, rfl, rfl⟩
theorem rlc_e : Statement .rlc_e := ⟨rfl, rfl, rfl⟩
theorem rlc_h : Statement .rlc_h := ⟨rfl, rfl, rfl⟩
theorem rlc_l : Statement .rlc_l := ⟨rfl, rfl, rfl⟩
theorem rlc_mhl : Statement .rlc_mhl := ⟨rfl, rfl, rfl⟩
theorem rlc_a : Statement .rlc_a := ⟨rfl, rfl, rfl⟩
theorem rrc_b : Statement .rrc_b := ⟨rfl, rfl, rfl⟩
theorem rrc_c : Statement .rrc_c := ⟨rfl, rfl, rfl⟩
theorem rrc_d : Statement .rrc_d := ⟨rfl, rfl, rfl⟩
theorem rrc_e : Statement .rrc_e := ⟨rfl, rfl, rfl⟩
theorem rrc_h : Statement .rrc_h := ⟨rfl, rfl, rfl⟩
theorem rrc_l : Statement .rrc_l := ⟨rfl, rfl, rfl⟩
theorem rrc_mhl : Statement .rrc_mhl := ⟨rfl, rfl, rfl⟩
theorem rrc_a : Statement .rrc_a := ⟨rfl, rfl, rfl⟩
theorem rl_b : Statement .rl_b := ⟨rfl, rfl, rfl⟩
theorem rl_c : Statement .rl_c := ⟨rfl, rfl, rfl⟩
theorem rl_d : Statement .rl_d := ⟨rfl, rfl, rfl⟩
theorem rl_e : Statement .rl_e := ⟨rfl, rfl, rfl⟩
theorem rl_h : Statement .rl_h := ⟨rfl, rfl, rfl⟩
theorem rl_l : Statement .rl_l := ⟨rfl, rfl, rfl⟩
theorem rl_mhl : Statement .rl_mhl := ⟨rfl, rfl, rfl⟩
theorem rl_a : Statement .rl_a := ⟨rfl, rfl, rfl⟩
theorem rr_b : Statement .rr_b := ⟨rfl, rfl, rfl⟩
theorem rr_c : Statement .rr_c := ⟨rfl, rfl, rfl⟩
theorem rr_d : Statement .rr_d := ⟨rfl, rfl, rfl⟩
theorem rr_e : Statement .rr_e := ⟨rfl, rfl, rfl⟩
theorem rr_h : Statement .rr_h := ⟨rfl, rfl, rfl⟩
theorem rr_l : Statement .rr_l := ⟨rfl, rfl, rfl⟩
theorem rr_mhl : Statement .rr_mhl := ⟨rfl, rfl, rfl⟩
theorem rr_a : Statement .rr_a := ⟨rfl, rfl, rfl⟩
theorem sla_b : Statement .sla_b := ⟨rfl, rfl, rfl⟩
theorem sla_c : Statement .sla_c := ⟨rfl, rfl, rfl⟩
theorem sla_d : Statement .sla_d := ⟨rfl, rfl, rfl⟩
theorem sla_e : Statement .sla_e := ⟨rfl, rfl, rfl⟩
theorem sla_h : Statement .sla_h := ⟨rfl, rfl, rfl⟩
theorem sla_l : Statement .sla_l := ⟨rfl, rfl, rfl⟩
theorem sla_mhl : Statement .sla_mhl := ⟨rfl, rfl, rfl⟩
theorem sla_a : Statement .sla_a := ⟨rfl, rfl, rfl⟩
theorem sra_b : Statement .sra_b := ⟨rfl, rfl, rfl⟩
theorem sra_c : Statement .sra_c := ⟨rfl, rfl, rfl⟩
theorem sra_d : Statement .sra_d := ⟨rfl, rfl, rfl⟩
theorem sra_e : Statement .sra_e := ⟨rfl, rfl, rfl⟩
theorem sra_h : Statement .sra_h := ⟨rfl, rfl, rfl⟩
theorem sra_l : Statement .sra_l := ⟨rfl, rfl, rfl⟩
theorem sra_mhl : Statement .sra_mhl := ⟨rfl, rfl, rfl⟩
theorem sra_a : Statement .sra_a := ⟨rfl, rfl, rfl⟩
theorem swap_b : Statement .swap_b := ⟨rfl, rfl, rfl⟩
theorem swap_c : Statement .swap_c := ⟨rfl, rfl, rfl⟩
theorem swap_d : Statement .swap_d := ⟨rfl, rfl, rfl⟩
theorem swap_e : Statement .swap_e := ⟨rfl, rfl, rfl⟩
theorem swap_h : Statement .swap_h := ⟨rfl, rfl, rfl⟩
theorem swap_l : Statement .swap_l := ⟨rfl, rfl, rfl⟩
theorem swap_mhl : Statement .swap_mhl := ⟨rfl, rfl, rfl⟩
theorem swap_a : Statement .swap_a := ⟨rfl, rfl, rfl⟩
theorem srl_b : Statement .srl_b := ⟨rfl, rfl, rfl⟩
theorem srl_c : Statement .srl_c := ⟨rfl, rfl, rfl⟩
theorem srl_d : Statement .srl_d := ⟨rfl, rfl, rfl⟩
theorem srl_e : Statement .srl_e := ⟨rfl, rfl, rfl⟩
theorem srl_h : Statement .srl_h := ⟨rfl, rfl, rfl⟩
theorem srl_l : Statement .srl_l := ⟨rfl, rfl, rfl⟩
theorem srl_mhl : Statement .srl_mhl := ⟨rfl, rfl, rfl⟩
theorem srl_a : Statement .srl_a := ⟨rfl, rfl, rfl⟩
theorem bit_0_b : Statement .bit_0_b := ⟨rfl, rfl, rfl⟩
theorem bit_0_c : Statement .bit_0_c := ⟨rfl, rfl, rfl⟩
theorem bit_0_d : Statement .bit_0_d := ⟨rfl, rfl, rfl⟩
theorem bit_0_e : Statement .bit_0_e := ⟨rfl, rfl, rfl⟩
theorem bit_0_h : Statement .bit_0_h := ⟨rfl, rfl, rfl⟩
theorem bit_0_l : Statement .bit_0_l := ⟨rfl, rfl, rfl⟩
theorem bit_0_mhl : Statement .bit_0_mhl := ⟨rfl, rfl, rfl⟩
theorem bit_0_a : Statement .bit_0_a := ⟨rfl, rfl, rfl⟩
theorem bit_1_b : Statement .bit_1_b := ⟨rfl, rfl, rfl⟩
theorem bit_1_c : Statement .bit_1_c := ⟨rfl, rfl, rfl⟩
theorem bit_1_d : Statement .bit_1_d := ⟨rfl, rfl, rfl⟩
theorem bit_1_e : Statement .bit_1_e := ⟨rfl, rfl, rfl⟩
theorem bit_1_h : Statement .bit_1_h := ⟨rfl, rfl, rfl⟩
theorem bit_1_l : Statement .bit_1_l := ⟨rfl, rfl, rfl⟩
theorem bit_1_mhl : Statement .bit_1_mhl := ⟨rfl, rfl, rfl⟩
theorem bit_1_a : Statement .bit_1_a := ⟨rfl, rfl, rfl⟩
theorem bit_2_b : Statement .bit_2_b := ⟨rfl, rfl, rfl⟩
theorem bit_2_c : Statement .bit_2_c := ⟨rfl, rfl, rfl⟩
theorem bit_2_d : Statement .bit_2_d := ⟨rfl, rfl, rfl⟩
theorem bit_2_e : Statement .bit_2_e := ⟨rfl, rfl, rfl⟩
theorem bit_2_h : Statement .bit_2_h := ⟨rfl, rfl, rfl⟩
theorem bit_2_l : Statement .bit_2_l := ⟨rfl, rfl, rfl⟩
theorem bit_2_mhl : Statement .bit_2_mhl := ⟨rfl, rfl, rfl⟩
theorem bit_2_a : Statement .bit_2_a := ⟨rfl, rfl, rfl⟩
theorem bit_3_b : Statement .bit_3_b := ⟨rfl, rfl, rfl⟩
theorem bit_3_c : Statement .bit_3_c := ⟨rfl, rfl, rfl⟩
theorem bit_3_d : Statement .bit_3_d := ⟨rfl, rfl, rfl⟩
theorem bit_3_e : Statement .bit_3_e := ⟨rfl, rfl, rfl⟩
theorem bit_3_h : Statement .bit_3_h := ⟨rfl, rfl, rfl⟩
theorem bit_3_l : Statement .bit_3_l := ⟨rfl, rfl, rfl⟩
theorem bit_3_mhl : Statement .bit_3_mhl := ⟨rfl, rfl, rfl⟩
theorem bit_3_a : Statement .bit_3_a := ⟨rfl, rfl, rfl⟩
theorem bit_4_b : Statement .bit_4_b := ⟨rfl, rfl, rfl⟩
theorem bit_4_c : Statement .bit_4_c := ⟨rfl, rfl, rfl⟩
theorem bit_4_d : Statement .bit_4_d := ⟨rfl, rfl, rfl⟩
theorem bit_4_e : Statement .bit_4_e := ⟨rfl, rfl, rfl⟩
theorem bit_4_h : Statement .bit_4_h := ⟨rfl, rfl, rfl⟩
theorem bit_4_l : Statement .bit_4_l := ⟨rfl, rfl, rfl⟩
theorem bit_4_mhl : Statement .bit_4_mhl := ⟨rfl, rfl, rfl⟩
theorem bit_4_a : Statement .bit_4_a := ⟨rfl, rfl, rfl⟩
theorem bit_5_b : Statement .bit_5_b := ⟨rfl, rfl, rfl⟩
theorem bit_5_c : Statement .bit_5_c := ⟨rfl, rfl, rfl⟩
theorem bit_5_d : Statement .bit_5_d := ⟨rfl, rfl, rfl⟩
theorem bit_5_e : Statement .bit_5_e := ⟨rfl, rfl, rfl⟩
theorem bit_5_h : Statement .bit_5_h := ⟨rfl, rfl, rfl⟩
theorem bit_5_l : Statement .bit_5_l := ⟨rfl, rfl, rfl⟩
theorem bit_5_mhl : Statement .bit_5_mhl := ⟨rfl, rfl, rfl⟩
theorem bit_5_a : Statement .bit_5_a := ⟨rfl, rfl, rfl⟩
theorem bit_6_b : Statement .bit_6_b := ⟨rfl, rfl, rfl⟩
theorem bit_6_c : Statement .bit_6_c := ⟨rfl, rfl, rfl⟩
theorem bit_6_d : Statement .bit_6_d := ⟨rfl, rfl, rfl⟩
theorem bit_6_e : Statement .bit_6_e := ⟨rfl, rfl, rfl⟩
theorem bit_6_h : Statement .bit_6_h := ⟨rfl, rfl, rfl⟩
theorem bit_6_l : Statement .bit_6_l := ⟨rfl, rfl, rfl⟩
theorem bit_6_mhl : Statement .bit_6_mhl := ⟨rfl, rfl, rfl⟩
theorem bit_6_a : Statement .bit_6_a := ⟨rfl, rfl, rfl⟩
theorem bit_7_b : Statement .bit_7_b := ⟨rfl, rfl, rfl⟩
theorem bit_7_c : Statement .bit_7_c := ⟨rfl, rfl, rfl⟩
theorem bit_7_d : Statement .bit_7_d := ⟨rfl, rfl, rfl⟩
theorem bit_7_e : Statement .bit_7_e := ⟨rfl, rfl, rfl⟩
theorem bit_7_h : Statement .bit_7_h := ⟨rfl, rfl, rfl⟩
theorem bit_7_l : Statement .bit_7_l := ⟨rfl, rfl, rfl⟩
theorem bit_7_mhl : Statement .bit_7_mhl := ⟨rfl, rfl, rfl⟩
theorem bit_7_a : Statement .bit_7_a := ⟨rfl, rfl, rfl⟩
theorem res_0_b : Statement .res_0_b := ⟨rfl, rfl, rfl⟩
theorem res_0_c : Statement .res_0_c := ⟨rfl, rfl, rfl⟩
theorem res_0_d : Statement .res_0_d := ⟨rfl, rfl, rfl⟩
theorem res_0_e : Statement .res_0_e := ⟨rfl, rfl, rfl⟩
theorem res_0_h : Statement .res_0_h := ⟨rfl, rfl, rfl⟩
theorem res_0_l : Statement .res_0_l := ⟨rfl, rfl, rfl⟩
theorem res_0_mhl : Statement .res_0_mhl := ⟨rfl, rfl, rfl⟩
theorem res_0_a : Statement .res_0_a := ⟨rfl, rfl, rfl⟩
theorem res_1_b : Statement .res_1_b := ⟨rfl, rfl, rfl⟩
theorem res_1_c : Statement .res_1_c := ⟨rfl, rfl, rfl⟩
theorem res_1_d : Statement .res_1_d := ⟨rfl, rfl, rfl⟩
theorem res_1_e : Statement .res_1_e := ⟨rfl, rfl, rfl⟩
theorem res_1_h : Statement .res_1_h := ⟨rfl, rfl, rfl⟩
theorem res_1_l : Statement .res_1_l := ⟨rfl, rfl, rfl⟩
theorem res_1_mhl : Statement .res_1_mhl := ⟨rfl, rfl, rfl⟩
theorem res_1_a : Statement .res_1_a := ⟨rfl, rfl, rfl⟩
theorem res_2_b : Statement .res_2_b := ⟨rfl, rfl, rfl⟩
theorem res_2_c : Statement .res_2_c := ⟨rfl, rfl, rfl⟩
theorem res_2_d : Statement .res_2_d := ⟨rfl, rfl, rfl⟩
theorem res_2_e : Statement .res_2_e := ⟨rfl, rfl, rfl⟩
theorem res_2_h : Statement .res_2_h := ⟨rfl, rfl, rfl⟩
theorem res_2_l : Statement .res_2_l := ⟨rfl, rfl, rfl⟩
theorem res_2_mhl : Statement .res_2_mhl := ⟨rfl, rfl, rfl⟩
theorem res_2_a : Statement .res_2_a := ⟨rfl, rfl, rfl⟩
theorem res_3_b : Statement .res_3_b := ⟨rfl, rfl, rfl⟩
theorem res_3_c : Statement .res_3_c := ⟨rfl, rfl, rfl⟩
theorem res_3_d : Statement .res_3_d := ⟨rfl, rfl, rfl⟩
theorem res_3_e : Statement .res_3_e := ⟨rfl, rfl, rfl⟩
theorem res_3_h : Statement .res_3_h := ⟨rfl, rfl, rfl⟩
theorem res_3_l : Statement .res_3_l := ⟨rfl, rfl, rfl⟩
theorem res_3_mhl : Statement .res_3_mhl := ⟨rfl, rfl, rfl⟩
theorem res_3_a : Statement .res_3_a := ⟨rfl, rfl, rfl⟩
theorem res_4_b : Statement .res_4_b := ⟨rfl, rfl, rfl⟩
theorem res_4_c : Statement .res_4_c := ⟨rfl, rfl, rfl⟩
theorem res_4_d : Statement .res_4_d := ⟨rfl, rfl, rfl⟩
theorem res_4_e : Statement .res_4_e := ⟨rfl, rfl, rfl⟩
theorem res_4_h : Statement .res_4_h := ⟨rfl, rfl, rfl⟩
theorem res_4_l : Statement .res_4_l := ⟨rfl, rfl, rfl⟩
theorem res_4_mhl : Statement .res_4_mhl := ⟨rfl, rfl, rfl⟩
theorem res_4_a : Statement .res_4_a := ⟨rfl, rfl, rfl⟩
theorem res_5_b : Statement .res_5_b := ⟨rfl, rfl, rfl⟩
theorem res_5_c : Statement .res_5_c := ⟨rfl, rfl, rfl⟩
theorem res_5_d : Statement .res_5_d := ⟨rfl, rfl, rfl⟩
theorem res_5_e : Statement .res_5_e := ⟨rfl, rfl, rfl⟩
theorem res_5_h : Statement .res_5_h := ⟨rfl, rfl, rfl⟩
theorem res_5_l : Statement .res_5_l := ⟨rfl, rfl, rfl⟩
theorem res_5_mhl : Statement .res_5_mhl := ⟨rfl, rfl, rfl⟩
theorem res_5_a : Statement .res_5_a := ⟨rfl, rfl, rfl⟩
theorem res_6_b : Statement .res_6_b := ⟨rfl, rfl, rfl⟩
theorem res_6_c : Statement .res_6_c := ⟨rfl, rfl, rfl⟩
theorem res_6_d : Statement .res_6_d := ⟨rfl, rfl, rfl⟩
theorem res_6_e : Statement .res_6_e := ⟨rfl, rfl, rfl⟩
theorem res_6_h : Statement .res_6_h := ⟨rfl, rfl, rfl⟩
theorem res_6_l : Statement .res_6_l := ⟨rfl, rfl, rfl⟩
theorem res_6_mhl : Statement .res_6_mhl := ⟨rfl, rfl, rfl⟩
theorem res_6_a : Statement .res_6_a := ⟨rfl, rfl, rfl⟩
theorem res_7_b : Statement .res_7_b := ⟨rfl, rfl, rfl⟩
theorem res_7_c : Statement .res_7_c := ⟨rfl, rfl, rfl⟩
theorem res_7_d : Statement .res_7_d := ⟨rfl, rfl, rfl⟩
theorem res_7_e : Statement .res_7_e := ⟨rfl, rfl, rfl⟩
theorem res_7_h : Statement .res_7_h := ⟨rfl, rfl, rfl⟩
theorem res_7_l : Statement .res_7_l := ⟨rfl, rfl, rfl⟩
theorem res_7_mhl : Statement .res_7_mhl := ⟨rfl, rfl, rfl⟩
theorem res_7_a : Statement .res_7_a := ⟨rfl, rfl, rfl⟩
theorem set_0_b : Statement .set_0_b := ⟨rfl, rfl, rfl⟩
theorem set_0_c : Statement .set_0_c := ⟨rfl, rfl, rfl⟩
theorem set_0_d : Statement .set_0_d := ⟨rfl, rfl, rfl⟩
theorem set_0_e : Statement .set_0_e := ⟨rfl, rfl, rfl⟩
theorem set_0_h : Statement .set_0_h := ⟨rfl, rfl, rfl⟩
theorem set_0_l : Statement .set_0_l := ⟨rfl, rfl, rfl⟩
theorem set_0_mhl : Statement .set_0_mhl := ⟨rfl, rfl, rfl⟩
theorem set_0_a : Statement .set_0_a := ⟨rfl, rfl, rfl⟩
theorem set_1_b : Statement .set_1_b := ⟨rfl, rfl, rfl⟩
theorem set_1_c : Statement .set_1_c := ⟨rfl, rfl, rfl⟩
theorem set_1_d : Statement .set_1_d := ⟨rfl, rfl, rfl⟩
theorem set_1_e : Statement .set_1_e := ⟨rfl, rfl, rfl⟩
theorem set_1_h : Statement .set_1_h := ⟨rfl, rfl, rfl⟩
theorem set_1_l : Statement .set_1_l := ⟨rfl, rfl, rfl⟩
theorem set_1_mhl : Statement .set_1_mhl := ⟨rfl, rfl, rfl⟩
theorem set_1_a : Statement .set_1_a := ⟨rfl, rfl, rfl⟩
theorem set_2_b : Statement .set_2_b := ⟨rfl, rfl, rfl⟩
theorem set_2_c : Statement .set_2_c := ⟨rfl, rfl, rfl⟩
theorem set_2_d : Statement .set_2_d := ⟨rfl, rfl, rfl⟩
theorem set_2_e : Statement .set_2_e := ⟨rfl, rfl, rfl⟩
theorem set_2_h : Statement .set_2_h := ⟨rfl, rfl, rfl⟩
theorem set_2_l : Statement .set_2_l := ⟨rfl, rfl, rfl⟩
theorem set_2_mhl : Statement .set_2_mhl := ⟨rfl, rfl, rfl⟩
theorem set_2_a : Statement .set_2_a := ⟨rfl, rfl, rfl⟩
theorem set_3_b : Statement .set_3_b := ⟨rfl, rfl, rfl⟩
theorem set_3_c : Statement .set_3_c := ⟨rfl, rfl, rfl⟩
theorem set_3_d : Statement .set_3_d := ⟨rfl, rfl, rfl⟩
theorem set_3_e : Statement .set_3_e := ⟨rfl, rfl, rfl⟩
theorem set_3_h : Statement .set_3_h := ⟨rfl, rfl, rfl⟩
theorem set_3_l : Statement .set_3_l := ⟨rfl, rfl, rfl⟩
theorem set_3_mhl : Statement .set_3_mhl := ⟨rfl, rfl, rfl⟩
theorem set_3_a : Statement .set_3_a := ⟨rfl, rfl, rfl⟩
theorem set_4_b : Statement .set_4_b := ⟨rfl, rfl, rfl⟩
theorem set_4_c : Statement .set_4_c := ⟨rfl, rfl, rfl⟩
theorem set_4_d : Statement .set_4_d := ⟨rfl, rfl, rfl⟩
theorem set_4_e : Statement .set_4_e := ⟨rfl, rfl, rfl⟩
theorem set_4_h : Statement .set_4_h := ⟨rfl, rfl, rfl⟩
theorem set_4_l : Statement .set_4_l := ⟨rfl, rfl, rfl⟩
theorem set_4_mhl : Statement .set_4_mhl := ⟨rfl, rfl, rfl⟩
theorem set_4_a : Statement .set_4_a := ⟨rfl, rfl, rfl⟩
theorem set_5_b : Statement .set_5_b := ⟨rfl, rfl, rfl⟩
theorem set_5_c : Statement .set_5_c := ⟨rfl, rfl, rfl⟩
theorem set_5_d : Statement .set_5_d := ⟨rfl, rfl, rfl⟩
theorem set_5_e : Statement .set_5_e := ⟨rfl, rfl, rfl⟩
theorem set_5_h : Statement .set_5_h := ⟨rfl, rfl, rfl⟩
theorem set_5_l : Statement .set_5_l := ⟨rfl, rfl, rfl⟩
theorem set_5_mhl : Statement .set_5_mhl := ⟨rfl, rfl, rfl⟩
theorem set_5_a : Statement .set_5_a := ⟨rfl, rfl, rfl⟩
theorem set_6_b : Statement .set_6_b := ⟨rfl, rfl, rfl⟩
theorem set_6_c : Statement .set_6_c := ⟨rfl, rfl, rfl⟩
theorem set_6_d : Statement .set_6_d := ⟨rfl, rfl, rfl⟩
theorem set_6_e : Statement .set_6_e := ⟨rfl, rfl, rfl⟩
theorem set_6_h : Statement .set_6_h := ⟨rfl, rfl, rfl⟩
theorem set_6_l : Statement .set_6_l := ⟨rfl, rfl, rfl⟩
theorem set_6_mhl : Statement .set_6_mhl := ⟨rfl, rfl, rfl⟩
theorem set_6_a : Statement .set_6_a := ⟨rfl, rfl, rfl⟩
theorem set_7_b : Statement .set_7_b := ⟨rfl, rfl, rfl⟩
theorem set_7_c : Statement .set_7_c := ⟨rfl, rfl, rfl⟩
theorem set_7_d : Statement .set_7_d := ⟨rfl, rfl, rfl⟩
theorem set_7_e : Statement .set_7_e := ⟨rfl, rfl, rfl⟩
theorem set_7_h : Statement .set_7_h := ⟨rfl, rfl, rfl⟩
theorem set_7_l : Statement .set_7_l := ⟨rfl, rfl, rfl⟩
theorem set_7_mhl : Statement .set_7_mhl := ⟨rfl, rfl, rfl⟩
theorem set_7_a : Statement .set_7_a := ⟨rfl, rfl, rfl⟩

end Sys2Proof.Laws.EncodedForm
end

