-- ==== Sys2Proof/Laws/Ppu.lean ====
section
/-! SUPPORT. The laws of the PPU's operations: bits and bytes of a pixel, what the line and mode changes keep, and
what a line of the frame buffer is after another is put. -/

namespace Sys2Proof.Machine

theorem bitOf_eq (v : Byte) (k : Nat) : bitOf v k = (v.getLsbD k).toNat := by
  unfold bitOf
  rw [BitVec.getLsbD, ← Nat.shiftRight_eq_div_pow]
  simp only [Nat.testBit, Nat.and_comm 1, Nat.and_one_is_mod]
  rcases Nat.mod_two_eq_zero_or_one (v.toNat >>> k) with h | h <;> simp [h]

/-- Video memory as the bus shows it. -/
theorem State.read_vram (s : State) (n : Nat) (h : n < 0x2000) : s.read (BitVec.ofNat 16 (0x8000 + n)) = s.vram n := by
  have e : (BitVec.ofNat 16 (0x8000 + n)).toNat = 0x8000 + n := by
    simp
    omega
  have r : regionOf (BitVec.ofNat 16 (0x8000 + n)) = .vram := by
    rw [regionOf_toNat, e, if_neg (by omega), if_pos (by omega)]
  unfold State.read State.readAt State.vram cellOf
  rw [r]
  simp only [e]

/-- OAM as the bus shows it. -/
theorem State.read_oam (s : State) (n : Nat) (h : n < 0xA0) : s.read (BitVec.ofNat 16 (0xFE00 + n)) = s.oam n := by
  have e : (BitVec.ofNat 16 (0xFE00 + n)).toNat = 0xFE00 + n := by
    simp
    omega
  have r : regionOf (BitVec.ofNat 16 (0xFE00 + n)) = .oam := by
    rw [regionOf_toNat, e]
    repeat rw [if_neg (by omega)]
    rw [if_pos (by omega)]
  unfold State.read State.readAt State.oam cellOf
  rw [r]
  simp only [e]

theorem pixelOf_toNat (lo hi : Byte) (k : Nat) :
    (pixelOf lo hi k).toNat = 2 * bitOf hi (7 - k) + bitOf lo (7 - k) := by
  rw [bitOf_eq, bitOf_eq]
  unfold pixelOf
  cases hi.getLsbD (7 - k) <;> cases lo.getLsbD (7 - k) <;> rfl

theorem shadeOf_toNat (palette : Byte) (c : BitVec 2) : (shadeOf palette c).toNat = shadeBits palette c.toNat := by
  unfold shadeOf shadeBits
  simp [BitVec.extractLsb'_toNat, Nat.shiftRight_eq_div_pow]

theorem State.request_memOk (s : State) (bits : Byte) (h : s.memOk) : (s.request bits).memOk :=
  s.setIo_memOk 0x0F _ (by decide) h

theorem State.requestStat_memOk (s : State) (b : Nat) (h : s.memOk) : (s.requestStat b).memOk := by
  unfold State.requestStat
  split
  · exact s.request_memOk _ h
  · exact h

@[simp] theorem State.setLine_line (s : State) (n : Nat) : (s.setLine n).line = n := by
  unfold State.setLine
  simp only []
  split <;> simp [State.setIo]

theorem State.setLine_memOk (s : State) (n : Nat) (h : s.memOk) : (s.setLine n).memOk := by
  unfold State.setLine
  simp only []
  split
  · exact State.requestStat_memOk _ _ (State.setIo_memOk _ _ _ (by decide) (State.setIo_memOk _ _ _ (by decide) h))
  · exact State.setIo_memOk _ _ _ (by decide) (State.setIo_memOk _ _ _ (by decide) h)

@[simp] theorem State.enterMode_mode (s : State) (m : PpuMode) : (s.enterMode m).mode = m := by
  cases m <;> simp [State.enterMode, State.setIo]

theorem State.enterMode_memOk (s : State) (m : PpuMode) (h : s.memOk) : (s.enterMode m).memOk := by
  have h1 : ({ s with mode := m }.setIo 0x41 ((s.io 0x41 &&& 0xFC#8) ||| m.number)).memOk :=
    State.setIo_memOk _ _ _ (by decide) h
  cases m with
  | oamSearch => exact State.requestStat_memOk _ _ h1
  | drawing => exact h1
  | hblank => exact State.requestStat_memOk _ _ h1
  | vblank => exact State.requestStat_memOk _ _ (State.request_memOk _ _ h1)

@[simp] theorem State.lineShades_length (s : State) (ly : Nat) : (s.lineShades ly).length = 160 := by
  simp [State.lineShades]

/-- A line put into the frame buffer: itself, and every other as before. -/
theorem Frame.find_put (fr : Frame) (y z : Nat) (px : List (BitVec 2)) :
    (fr.put y px).find? (fun row => row.1 = z) = if z = y then some (y, px) else fr.find? (fun row => row.1 = z) := by
  induction fr with
  | nil => by_cases h : z = y <;> simp [Frame.put, h, eq_comm]
  | cons row fr ih =>
    obtain ⟨k, q⟩ := row
    unfold Frame.put
    by_cases h1 : y < k
    · rw [if_pos h1]
      by_cases h : z = y <;> simp [List.find?_cons, h, eq_comm]
    · rw [if_neg h1]
      by_cases h2 : y = k
      · subst h2
        rw [if_pos rfl]
        by_cases h : z = y
        · simp [h]
        · simp [h, Ne.symm h]
      · rw [if_neg h2, List.find?_cons, List.find?_cons, ih]
        by_cases h : z = y
        · simp [h, Ne.symm h2]
        · simp [h]

end Sys2Proof.Machine
end

