-- ==== Sys2Proof/Tests/Slice0.lean ====
section
/-! SUPPORT. Tests of the model on fixed values, and a witness for the hypotheses of each statement. The expected results
are the worked examples of the rules, the vectors of spec/95_test_vectors.md (V-..., S...), or words written out
from the encodings of 30_encoding and the opcode table. -/

namespace Sys2Proof.Tests

open Sys2Proof Sys2Proof.Machine

/-! ## Well-formed bytes (R300, R303) -/

theorem test_wf_no_bytes : wellFormedBytes [] = false := by decide
theorem test_wf_imm8_short : wellFormedBytes [0x06#8] = false := by decide
theorem test_wf_imm16_short : wellFormedBytes [0xC3#8, 0x00#8] = false := by decide
theorem test_wf_rel8_long : wellFormedBytes [0x18#8, 0x00#8, 0x00#8] = false := by decide
theorem test_wf_high_page_short : wellFormedBytes [0xE0#8] = false := by decide
theorem test_wf_stop_short : wellFormedBytes [0x10#8] = false := by decide
theorem test_wf_prefix_short : wellFormedBytes [0xCB#8] = false := by decide
theorem test_wf_op_long : wellFormedBytes [0x00#8, 0x00#8] = false := by decide
theorem test_wf_good : wellFormedBytes [0x08#8, 0x00#8, 0xC1#8] = true ∧ wellFormedBytes [0xCB#8, 0x37#8] = true ∧
    wellFormedBytes [0xD3#8] = true := by decide
/-- The formats of R300 and the lengths of R303 agree on every first byte. -/
theorem test_wf_lengths_agree : ∀ b : Byte, (formatOf b).bytes = opcodeLength b := by decide +kernel

/-! ## Decoding: every row of the opcode table, its word written out from its encoding -/

theorem test_decode_empty : decode [] = .error .noBytes := rfl
theorem test_decode_truncated : decode [0xC3#8, 0x00#8] = .error (.truncated 3) := rfl

theorem test_decode_op0 :
    decode [0b00000000#8] = .ok (.nop, []) ∧
    decode [0b00000001#8, 0x34#8, 0x12#8] = .ok (.ld_bc_nn 0x1234#16, []) ∧
    decode [0b00000010#8] = .ok (.ld_mbc_a, []) ∧
    decode [0b00000011#8] = .ok (.inc_bc, []) ∧
    decode [0b00000100#8] = .ok (.inc_b, []) ∧
    decode [0b00000101#8] = .ok (.dec_b, []) ∧
    decode [0b00000110#8, 0x9C#8] = .ok (.ld_b_n 0x9C#8, []) ∧
    decode [0b00000111#8] = .ok (.rlca, []) ∧
    decode [0b00001000#8, 0x34#8, 0x12#8] = .ok (.ld_mnn_sp 0x1234#16, []) ∧
    decode [0b00001001#8] = .ok (.add_hl_bc, []) ∧
    decode [0b00001010#8] = .ok (.ld_a_mbc, []) ∧
    decode [0b00001011#8] = .ok (.dec_bc, []) ∧
    decode [0b00001100#8] = .ok (.inc_c, []) ∧
    decode [0b00001101#8] = .ok (.dec_c, []) ∧
    decode [0b00001110#8, 0x9C#8] = .ok (.ld_c_n 0x9C#8, []) ∧
    decode [0b00001111#8] = .ok (.rrca, []) :=
  ⟨rfl, rfl, rfl, rfl, rfl, rfl, rfl, rfl, rfl, rfl, rfl, rfl, rfl, rfl, rfl, rfl⟩
theorem test_decode_op1 :
    decode [0b00010000#8, 0x9C#8] = .ok (.stop 0x9C#8, []) ∧
    decode [0b00010001#8, 0x34#8, 0x12#8] = .ok (.ld_de_nn 0x1234#16, []) ∧
    decode [0b00010010#8] = .ok (.ld_mde_a, []) ∧
    decode [0b00010011#8] = .ok (.inc_de, []) ∧
    decode [0b00010100#8] = .ok (.inc_d, []) ∧
    decode [0b00010101#8] = .ok (.dec_d, []) ∧
    decode [0b00010110#8, 0x9C#8] = .ok (.ld_d_n 0x9C#8, []) ∧
    decode [0b00010111#8] = .ok (.rla, []) ∧
    decode [0b00011000#8, 0x9C#8] = .ok (.jr_e 0x9C#8, []) ∧
    decode [0b00011001#8] = .ok (.add_hl_de, []) ∧
    decode [0b00011010#8] = .ok (.ld_a_mde, []) ∧
    decode [0b00011011#8] = .ok (.dec_de, []) ∧
    decode [0b00011100#8] = .ok (.inc_e, []) ∧
    decode [0b00011101#8] = .ok (.dec_e, []) ∧
    decode [0b00011110#8, 0x9C#8] = .ok (.ld_e_n 0x9C#8, []) ∧
    decode [0b00011111#8] = .ok (.rra, []) :=
  ⟨rfl, rfl, rfl, rfl, rfl, rfl, rfl, rfl, rfl, rfl, rfl, rfl, rfl, rfl, rfl, rfl⟩
theorem test_decode_op2 :
    decode [0b00100000#8, 0x9C#8] = .ok (.jr_nz_e 0x9C#8, []) ∧
    decode [0b00100001#8, 0x34#8, 0x12#8] = .ok (.ld_hl_nn 0x1234#16, []) ∧
    decode [0b00100010#8] = .ok (.ld_mhli_a, []) ∧
    decode [0b00100011#8] = .ok (.inc_hl, []) ∧
    decode [0b00100100#8] = .ok (.inc_h, []) ∧
    decode [0b00100101#8] = .ok (.dec_h, []) ∧
    decode [0b00100110#8, 0x9C#8] = .ok (.ld_h_n 0x9C#8, []) ∧
    decode [0b00100111#8] = .ok (.daa, []) ∧
    decode [0b00101000#8, 0x9C#8] = .ok (.jr_z_e 0x9C#8, []) ∧
    decode [0b00101001#8] = .ok (.add_hl_hl, []) ∧
    decode [0b00101010#8] = .ok (.ld_a_mhli, []) ∧
    decode [0b00101011#8] = .ok (.dec_hl, []) ∧
    decode [0b00101100#8] = .ok (.inc_l, []) ∧
    decode [0b00101101#8] = .ok (.dec_l, []) ∧
    decode [0b00101110#8, 0x9C#8] = .ok (.ld_l_n 0x9C#8, []) ∧
    decode [0b00101111#8] = .ok (.cpl, []) :=
  ⟨rfl, rfl, rfl, rfl, rfl, rfl, rfl, rfl, rfl, rfl, rfl, rfl, rfl, rfl, rfl, rfl⟩
theorem test_decode_op3 :
    decode [0b00110000#8, 0x9C#8] = .ok (.jr_nc_e 0x9C#8, []) ∧
    decode [0b00110001#8, 0x34#8, 0x12#8] = .ok (.ld_sp_nn 0x1234#16, []) ∧
    decode [0b00110010#8] = .ok (.ld_mhld_a, []) ∧
    decode [0b00110011#8] = .ok (.inc_sp, []) ∧
    decode [0b00110100#8] = .ok (.inc_mhl, []) ∧
    decode [0b00110101#8] = .ok (.dec_mhl, []) ∧
    decode [0b00110110#8, 0x9C#8] = .ok (.ld_mhl_n 0x9C#8, []) ∧
    decode [0b00110111#8] = .ok (.scf, []) ∧
    decode [0b00111000#8, 0x9C#8] = .ok (.jr_c_e 0x9C#8, []) ∧
    decode [0b00111001#8] = .ok (.add_hl_sp, []) ∧
    decode [0b00111010#8] = .ok (.ld_a_mhld, []) ∧
    decode [0b00111011#8] = .ok (.dec_sp, []) ∧
    decode [0b00111100#8] = .ok (.inc_a, []) ∧
    decode [0b00111101#8] = .ok (.dec_a, []) ∧
    decode [0b00111110#8, 0x9C#8] = .ok (.ld_a_n 0x9C#8, []) ∧
    decode [0b00111111#8] = .ok (.ccf, []) :=
  ⟨rfl, rfl, rfl, rfl, rfl, rfl, rfl, rfl, rfl, rfl, rfl, rfl, rfl, rfl, rfl, rfl⟩
theorem test_decode_op4 :
    decode [0b01000000#8] = .ok (.ld_b_b, []) ∧
    decode [0b01000001#8] = .ok (.ld_b_c, []) ∧
    decode [0b01000010#8] = .ok (.ld_b_d, []) ∧
    decode [0b01000011#8] = .ok (.ld_b_e, []) ∧
    decode [0b01000100#8] = .ok (.ld_b_h, []) ∧
    decode [0b01000101#8] = .ok (.ld_b_l, []) ∧
    decode [0b01000110#8] = .ok (.ld_b_mhl, []) ∧
    decode [0b01000111#8] = .ok (.ld_b_a, []) ∧
    decode [0b01001000#8] = .ok (.ld_c_b, []) ∧
    decode [0b01001001#8] = .ok (.ld_c_c, []) ∧
    decode [0b01001010#8] = .ok (.ld_c_d, []) ∧
    decode [0b01001011#8] = .ok (.ld_c_e, []) ∧
    decode [0b01001100#8] = .ok (.ld_c_h, []) ∧
    decode [0b01001101#8] = .ok (.ld_c_l, []) ∧
    decode [0b01001110#8] = .ok (.ld_c_mhl, []) ∧
    decode [0b01001111#8] = .ok (.ld_c_a, []) :=
  ⟨rfl, rfl, rfl, rfl, rfl, rfl, rfl, rfl, rfl, rfl, rfl, rfl, rfl, rfl, rfl, rfl⟩
theorem test_decode_op5 :
    decode [0b01010000#8] = .ok (.ld_d_b, []) ∧
    decode [0b01010001#8] = .ok (.ld_d_c, []) ∧
    decode [0b01010010#8] = .ok (.ld_d_d, []) ∧
    decode [0b01010011#8] = .ok (.ld_d_e, []) ∧
    decode [0b01010100#8] = .ok (.ld_d_h, []) ∧
    decode [0b01010101#8] = .ok (.ld_d_l, []) ∧
    decode [0b01010110#8] = .ok (.ld_d_mhl, []) ∧
    decode [0b01010111#8] = .ok (.ld_d_a, []) ∧
    decode [0b01011000#8] = .ok (.ld_e_b, []) ∧
    decode [0b01011001#8] = .ok (.ld_e_c, []) ∧
    decode [0b01011010#8] = .ok (.ld_e_d, []) ∧
    decode [0b01011011#8] = .ok (.ld_e_e, []) ∧
    decode [0b01011100#8] = .ok (.ld_e_h, []) ∧
    decode [0b01011101#8] = .ok (.ld_e_l, []) ∧
    decode [0b01011110#8] = .ok (.ld_e_mhl, []) ∧
    decode [0b01011111#8] = .ok (.ld_e_a, []) :=
  ⟨rfl, rfl, rfl, rfl, rfl, rfl, rfl, rfl, rfl, rfl, rfl, rfl, rfl, rfl, rfl, rfl⟩
theorem test_decode_op6 :
    decode [0b01100000#8] = .ok (.ld_h_b, []) ∧
    decode [0b01100001#8] = .ok (.ld_h_c, []) ∧
    decode [0b01100010#8] = .ok (.ld_h_d, []) ∧
    decode [0b01100011#8] = .ok (.ld_h_e, []) ∧
    decode [0b01100100#8] = .ok (.ld_h_h, []) ∧
    decode [0b01100101#8] = .ok (.ld_h_l, []) ∧
    decode [0b01100110#8] = .ok (.ld_h_mhl, []) ∧
    decode [0b01100111#8] = .ok (.ld_h_a, []) ∧
    decode [0b01101000#8] = .ok (.ld_l_b, []) ∧
    decode [0b01101001#8] = .ok (.ld_l_c, []) ∧
    decode [0b01101010#8] = .ok (.ld_l_d, []) ∧
    decode [0b01101011#8] = .ok (.ld_l_e, []) ∧
    decode [0b01101100#8] = .ok (.ld_l_h, []) ∧
    decode [0b01101101#8] = .ok (.ld_l_l, []) ∧
    decode [0b01101110#8] = .ok (.ld_l_mhl, []) ∧
    decode [0b01101111#8] = .ok (.ld_l_a, []) :=
  ⟨rfl, rfl, rfl, rfl, rfl, rfl, rfl, rfl, rfl, rfl, rfl, rfl, rfl, rfl, rfl, rfl⟩
theorem test_decode_op7 :
    decode [0b01110000#8] = .ok (.ld_mhl_b, []) ∧
    decode [0b01110001#8] = .ok (.ld_mhl_c, []) ∧
    decode [0b01110010#8] = .ok (.ld_mhl_d, []) ∧
    decode [0b01110011#8] = .ok (.ld_mhl_e, []) ∧
    decode [0b01110100#8] = .ok (.ld_mhl_h, []) ∧
    decode [0b01110101#8] = .ok (.ld_mhl_l, []) ∧
    decode [0b01110110#8] = .ok (.halt, []) ∧
    decode [0b01110111#8] = .ok (.ld_mhl_a, []) ∧
    decode [0b01111000#8] = .ok (.ld_a_b, []) ∧
    decode [0b01111001#8] = .ok (.ld_a_c, []) ∧
    decode [0b01111010#8] = .ok (.ld_a_d, []) ∧
    decode [0b01111011#8] = .ok (.ld_a_e, []) ∧
    decode [0b01111100#8] = .ok (.ld_a_h, []) ∧
    decode [0b01111101#8] = .ok (.ld_a_l, []) ∧
    decode [0b01111110#8] = .ok (.ld_a_mhl, []) ∧
    decode [0b01111111#8] = .ok (.ld_a_a, []) :=
  ⟨rfl, rfl, rfl, rfl, rfl, rfl, rfl, rfl, rfl, rfl, rfl, rfl, rfl, rfl, rfl, rfl⟩
theorem test_decode_op8 :
    decode [0b10000000#8] = .ok (.add_a_b, []) ∧
    decode [0b10000001#8] = .ok (.add_a_c, []) ∧
    decode [0b10000010#8] = .ok (.add_a_d, []) ∧
    decode [0b10000011#8] = .ok (.add_a_e, []) ∧
    decode [0b10000100#8] = .ok (.add_a_h, []) ∧
    decode [0b10000101#8] = .ok (.add_a_l, []) ∧
    decode [0b10000110#8] = .ok (.add_a_mhl, []) ∧
    decode [0b10000111#8] = .ok (.add_a_a, []) ∧
    decode [0b10001000#8] = .ok (.adc_a_b, []) ∧
    decode [0b10001001#8] = .ok (.adc_a_c, []) ∧
    decode [0b10001010#8] = .ok (.adc_a_d, []) ∧
    decode [0b10001011#8] = .ok (.adc_a_e, []) ∧
    decode [0b10001100#8] = .ok (.adc_a_h, []) ∧
    decode [0b10001101#8] = .ok (.adc_a_l, []) ∧
    decode [0b10001110#8] = .ok (.adc_a_mhl, []) ∧
    decode [0b10001111#8] = .ok (.adc_a_a, []) :=
  ⟨rfl, rfl, rfl, rfl, rfl, rfl, rfl, rfl, rfl, rfl, rfl, rfl, rfl, rfl, rfl, rfl⟩
theorem test_decode_op9 :
    decode [0b10010000#8] = .ok (.sub_b, []) ∧
    decode [0b10010001#8] = .ok (.sub_c, []) ∧
    decode [0b10010010#8] = .ok (.sub_d, []) ∧
    decode [0b10010011#8] = .ok (.sub_e, []) ∧
    decode [0b10010100#8] = .ok (.sub_h, []) ∧
    decode [0b10010101#8] = .ok (.sub_l, []) ∧
    decode [0b10010110#8] = .ok (.sub_mhl, []) ∧
    decode [0b10010111#8] = .ok (.sub_a, []) ∧
    decode [0b10011000#8] = .ok (.sbc_a_b, []) ∧
    decode [0b10011001#8] = .ok (.sbc_a_c, []) ∧
    decode [0b10011010#8] = .ok (.sbc_a_d, []) ∧
    decode [0b10011011#8] = .ok (.sbc_a_e, []) ∧
    decode [0b10011100#8] = .ok (.sbc_a_h, []) ∧
    decode [0b10011101#8] = .ok (.sbc_a_l, []) ∧
    decode [0b10011110#8] = .ok (.sbc_a_mhl, []) ∧
    decode [0b10011111#8] = .ok (.sbc_a_a, []) :=
  ⟨rfl, rfl, rfl, rfl, rfl, rfl, rfl, rfl, rfl, rfl, rfl, rfl, rfl, rfl, rfl, rfl⟩
theorem test_decode_opA :
    decode [0b10100000#8] = .ok (.and_b, []) ∧
    decode [0b10100001#8] = .ok (.and_c, []) ∧
    decode [0b10100010#8] = .ok (.and_d, []) ∧
    decode [0b10100011#8] = .ok (.and_e, []) ∧
    decode [0b10100100#8] = .ok (.and_h, []) ∧
    decode [0b10100101#8] = .ok (.and_l, []) ∧
    decode [0b10100110#8] = .ok (.and_mhl, []) ∧
    decode [0b10100111#8] = .ok (.and_a, []) ∧
    decode [0b10101000#8] = .ok (.xor_b, []) ∧
    decode [0b10101001#8] = .ok (.xor_c, []) ∧
    decode [0b10101010#8] = .ok (.xor_d, []) ∧
    decode [0b10101011#8] = .ok (.xor_e, []) ∧
    decode [0b10101100#8] = .ok (.xor_h, []) ∧
    decode [0b10101101#8] = .ok (.xor_l, []) ∧
    decode [0b10101110#8] = .ok (.xor_mhl, []) ∧
    decode [0b10101111#8] = .ok (.xor_a, []) :=
  ⟨rfl, rfl, rfl, rfl, rfl, rfl, rfl, rfl, rfl, rfl, rfl, rfl, rfl, rfl, rfl, rfl⟩
theorem test_decode_opB :
    decode [0b10110000#8] = .ok (.or_b, []) ∧
    decode [0b10110001#8] = .ok (.or_c, []) ∧
    decode [0b10110010#8] = .ok (.or_d, []) ∧
    decode [0b10110011#8] = .ok (.or_e, []) ∧
    decode [0b10110100#8] = .ok (.or_h, []) ∧
    decode [0b10110101#8] = .ok (.or_l, []) ∧
    decode [0b10110110#8] = .ok (.or_mhl, []) ∧
    decode [0b10110111#8] = .ok (.or_a, []) ∧
    decode [0b10111000#8] = .ok (.cp_b, []) ∧
    decode [0b10111001#8] = .ok (.cp_c, []) ∧
    decode [0b10111010#8] = .ok (.cp_d, []) ∧
    decode [0b10111011#8] = .ok (.cp_e, []) ∧
    decode [0b10111100#8] = .ok (.cp_h, []) ∧
    decode [0b10111101#8] = .ok (.cp_l, []) ∧
    decode [0b10111110#8] = .ok (.cp_mhl, []) ∧
    decode [0b10111111#8] = .ok (.cp_a, []) :=
  ⟨rfl, rfl, rfl, rfl, rfl, rfl, rfl, rfl, rfl, rfl, rfl, rfl, rfl, rfl, rfl, rfl⟩
theorem test_decode_opC :
    decode [0b11000000#8] = .ok (.ret_nz, []) ∧
    decode [0b11000001#8] = .ok (.pop_bc, []) ∧
    decode [0b11000010#8, 0x34#8, 0x12#8] = .ok (.jp_nz_nn 0x1234#16, []) ∧
    decode [0b11000011#8, 0x34#8, 0x12#8] = .ok (.jp_nn 0x1234#16, []) ∧
    decode [0b11000100#8, 0x34#8, 0x12#8] = .ok (.call_nz_nn 0x1234#16, []) ∧
    decode [0b11000101#8] = .ok (.push_bc, []) ∧
    decode [0b11000110#8, 0x9C#8] = .ok (.add_a_n 0x9C#8, []) ∧
    decode [0b11000111#8] = .ok (.rst_00, []) ∧
    decode [0b11001000#8] = .ok (.ret_z, []) ∧
    decode [0b11001001#8] = .ok (.ret, []) ∧
    decode [0b11001010#8, 0x34#8, 0x12#8] = .ok (.jp_z_nn 0x1234#16, []) ∧
    decode [0b11001100#8, 0x34#8, 0x12#8] = .ok (.call_z_nn 0x1234#16, []) ∧
    decode [0b11001101#8, 0x34#8, 0x12#8] = .ok (.call_nn 0x1234#16, []) ∧
    decode [0b11001110#8, 0x9C#8] = .ok (.adc_a_n 0x9C#8, []) ∧
    decode [0b11001111#8] = .ok (.rst_08, []) :=
  ⟨rfl, rfl, rfl, rfl, rfl, rfl, rfl, rfl, rfl, rfl, rfl, rfl, rfl, rfl, rfl⟩
theorem test_decode_opD :
    decode [0b11010000#8] = .ok (.ret_nc, []) ∧
    decode [0b11010001#8] = .ok (.pop_de, []) ∧
    decode [0b11010010#8, 0x34#8, 0x12#8] = .ok (.jp_nc_nn 0x1234#16, []) ∧
    decode [0b11010011#8] = .ok (.undefined_d3, []) ∧
    decode [0b11010100#8, 0x34#8, 0x12#8] = .ok (.call_nc_nn 0x1234#16, []) ∧
    decode [0b11010101#8] = .ok (.push_de, []) ∧
    decode [0b11010110#8, 0x9C#8] = .ok (.sub_n 0x9C#8, []) ∧
    decode [0b11010111#8] = .ok (.rst_10, []) ∧
    decode [0b11011000#8] = .ok (.ret_c, []) ∧
    decode [0b11011001#8] = .ok (.reti, []) ∧
    decode [0b11011010#8, 0x34#8, 0x12#8] = .ok (.jp_c_nn 0x1234#16, []) ∧
    decode [0b11011011#8] = .ok (.undefined_db, []) ∧
    decode [0b11011100#8, 0x34#8, 0x12#8] = .ok (.call_c_nn 0x1234#16, []) ∧
    decode [0b11011101#8] = .ok (.undefined_dd, []) ∧
    decode [0b11011110#8, 0x9C#8] = .ok (.sbc_a_n 0x9C#8, []) ∧
    decode [0b11011111#8] = .ok (.rst_18, []) :=
  ⟨rfl, rfl, rfl, rfl, rfl, rfl, rfl, rfl, rfl, rfl, rfl, rfl, rfl, rfl, rfl, rfl⟩
theorem test_decode_opE :
    decode [0b11100000#8, 0x9C#8] = .ok (.ldh_mn_a 0x9C#8, []) ∧
    decode [0b11100001#8] = .ok (.pop_hl, []) ∧
    decode [0b11100010#8] = .ok (.ld_mc_a, []) ∧
    decode [0b11100011#8] = .ok (.undefined_e3, []) ∧
    decode [0b11100100#8] = .ok (.undefined_e4, []) ∧
    decode [0b11100101#8] = .ok (.push_hl, []) ∧
    decode [0b11100110#8, 0x9C#8] = .ok (.and_n 0x9C#8, []) ∧
    decode [0b11100111#8] = .ok (.rst_20, []) ∧
    decode [0b11101000#8, 0x9C#8] = .ok (.add_sp_e 0x9C#8, []) ∧
    decode [0b11101001#8] = .ok (.jp_hl, []) ∧
    decode [0b11101010#8, 0x34#8, 0x12#8] = .ok (.ld_mnn_a 0x1234#16, []) ∧
    decode [0b11101011#8] = .ok (.undefined_eb, []) ∧
    decode [0b11101100#8] = .ok (.undefined_ec, []) ∧
    decode [0b11101101#8] = .ok (.undefined_ed, []) ∧
    decode [0b11101110#8, 0x9C#8] = .ok (.xor_n 0x9C#8, []) ∧
    decode [0b11101111#8] = .ok (.rst_28, []) :=
  ⟨rfl, rfl, rfl, rfl, rfl, rfl, rfl, rfl, rfl, rfl, rfl, rfl, rfl, rfl, rfl, rfl⟩
theorem test_decode_opF :
    decode [0b11110000#8, 0x9C#8] = .ok (.ldh_a_mn 0x9C#8, []) ∧
    decode [0b11110001#8] = .ok (.pop_af, []) ∧
    decode [0b11110010#8] = .ok (.ld_a_mc, []) ∧
    decode [0b11110011#8] = .ok (.di, []) ∧
    decode [0b11110100#8] = .ok (.undefined_f4, []) ∧
    decode [0b11110101#8] = .ok (.push_af, []) ∧
    decode [0b11110110#8, 0x9C#8] = .ok (.or_n 0x9C#8, []) ∧
    decode [0b11110111#8] = .ok (.rst_30, []) ∧
    decode [0b11111000#8, 0x9C#8] = .ok (.ld_hl_sp_e 0x9C#8, []) ∧
    decode [0b11111001#8] = .ok (.ld_sp_hl, []) ∧
    decode [0b11111010#8, 0x34#8, 0x12#8] = .ok (.ld_a_mnn 0x1234#16, []) ∧
    decode [0b11111011#8] = .ok (.ei, []) ∧
    decode [0b11111100#8] = .ok (.undefined_fc, []) ∧
    decode [0b11111101#8] = .ok (.undefined_fd, []) ∧
    decode [0b11111110#8, 0x9C#8] = .ok (.cp_n 0x9C#8, []) ∧
    decode [0b11111111#8] = .ok (.rst_38, []) :=
  ⟨rfl, rfl, rfl, rfl, rfl, rfl, rfl, rfl, rfl, rfl, rfl, rfl, rfl, rfl, rfl, rfl⟩
theorem test_decode_cb0 :
    decode [0b11001011#8, 0b00000000#8] = .ok (.rlc_b, []) ∧
    decode [0b11001011#8, 0b00000001#8] = .ok (.rlc_c, []) ∧
    decode [0b11001011#8, 0b00000010#8] = .ok (.rlc_d, []) ∧
    decode [0b11001011#8, 0b00000011#8] = .ok (.rlc_e, []) ∧
    decode [0b11001011#8, 0b00000100#8] = .ok (.rlc_h, []) ∧
    decode [0b11001011#8, 0b00000101#8] = .ok (.rlc_l, []) ∧
    decode [0b11001011#8, 0b00000110#8] = .ok (.rlc_mhl, []) ∧
    decode [0b11001011#8, 0b00000111#8] = .ok (.rlc_a, []) ∧
    decode [0b11001011#8, 0b00001000#8] = .ok (.rrc_b, []) ∧
    decode [0b11001011#8, 0b00001001#8] = .ok (.rrc_c, []) ∧
    decode [0b11001011#8, 0b00001010#8] = .ok (.rrc_d, []) ∧
    decode [0b11001011#8, 0b00001011#8] = .ok (.rrc_e, []) ∧
    decode [0b11001011#8, 0b00001100#8] = .ok (.rrc_h, []) ∧
    decode [0b11001011#8, 0b00001101#8] = .ok (.rrc_l, []) ∧
    decode [0b11001011#8, 0b00001110#8] = .ok (.rrc_mhl, []) ∧
    decode [0b11001011#8, 0b00001111#8] = .ok (.rrc_a, []) :=
  ⟨rfl, rfl, rfl, rfl, rfl, rfl, rfl, rfl, rfl, rfl, rfl, rfl, rfl, rfl, rfl, rfl⟩
theorem test_decode_cb1 :
    decode [0b11001011#8, 0b00010000#8] = .ok (.rl_b, []) ∧
    decode [0b11001011#8, 0b00010001#8] = .ok (.rl_c, []) ∧
    decode [0b11001011#8, 0b00010010#8] = .ok (.rl_d, []) ∧
    decode [0b11001011#8, 0b00010011#8] = .ok (.rl_e, []) ∧
    decode [0b11001011#8, 0b00010100#8] = .ok (.rl_h, []) ∧
    decode [0b11001011#8, 0b00010101#8] = .ok (.rl_l, []) ∧
    decode [0b11001011#8, 0b00010110#8] = .ok (.rl_mhl, []) ∧
    decode [0b11001011#8, 0b00010111#8] = .ok (.rl_a, []) ∧
    decode [0b11001011#8, 0b00011000#8] = .ok (.rr_b, []) ∧
    decode [0b11001011#8, 0b00011001#8] = .ok (.rr_c, []) ∧
    decode [0b11001011#8, 0b00011010#8] = .ok (.rr_d, []) ∧
    decode [0b11001011#8, 0b00011011#8] = .ok (.rr_e, []) ∧
    decode [0b11001011#8, 0b00011100#8] = .ok (.rr_h, []) ∧
    decode [0b11001011#8, 0b00011101#8] = .ok (.rr_l, []) ∧
    decode [0b11001011#8, 0b00011110#8] = .ok (.rr_mhl, []) ∧
    decode [0b11001011#8, 0b00011111#8] = .ok (.rr_a, []) :=
  ⟨rfl, rfl, rfl, rfl, rfl, rfl, rfl, rfl, rfl, rfl, rfl, rfl, rfl, rfl, rfl, rfl⟩
theorem test_decode_cb2 :
    decode [0b11001011#8, 0b00100000#8] = .ok (.sla_b, []) ∧
    decode [0b11001011#8, 0b00100001#8] = .ok (.sla_c, []) ∧
    decode [0b11001011#8, 0b00100010#8] = .ok (.sla_d, []) ∧
    decode [0b11001011#8, 0b00100011#8] = .ok (.sla_e, []) ∧
    decode [0b11001011#8, 0b00100100#8] = .ok (.sla_h, []) ∧
    decode [0b11001011#8, 0b00100101#8] = .ok (.sla_l, []) ∧
    decode [0b11001011#8, 0b00100110#8] = .ok (.sla_mhl, []) ∧
    decode [0b11001011#8, 0b00100111#8] = .ok (.sla_a, []) ∧
    decode [0b11001011#8, 0b00101000#8] = .ok (.sra_b, []) ∧
    decode [0b11001011#8, 0b00101001#8] = .ok (.sra_c, []) ∧
    decode [0b11001011#8, 0b00101010#8] = .ok (.sra_d, []) ∧
    decode [0b11001011#8, 0b00101011#8] = .ok (.sra_e, []) ∧
    decode [0b11001011#8, 0b00101100#8] = .ok (.sra_h, []) ∧
    decode [0b11001011#8, 0b00101101#8] = .ok (.sra_l, []) ∧
    decode [0b11001011#8, 0b00101110#8] = .ok (.sra_mhl, []) ∧
    decode [0b11001011#8, 0b00101111#8] = .ok (.sra_a, []) :=
  ⟨rfl, rfl, rfl, rfl, rfl, rfl, rfl, rfl, rfl, rfl, rfl, rfl, rfl, rfl, rfl, rfl⟩
theorem test_decode_cb3 :
    decode [0b11001011#8, 0b00110000#8] = .ok (.swap_b, []) ∧
    decode [0b11001011#8, 0b00110001#8] = .ok (.swap_c, []) ∧
    decode [0b11001011#8, 0b00110010#8] = .ok (.swap_d, []) ∧
    decode [0b11001011#8, 0b00110011#8] = .ok (.swap_e, []) ∧
    decode [0b11001011#8, 0b00110100#8] = .ok (.swap_h, []) ∧
    decode [0b11001011#8, 0b00110101#8] = .ok (.swap_l, []) ∧
    decode [0b11001011#8, 0b00110110#8] = .ok (.swap_mhl, []) ∧
    decode [0b11001011#8, 0b00110111#8] = .ok (.swap_a, []) ∧
    decode [0b11001011#8, 0b00111000#8] = .ok (.srl_b, []) ∧
    decode [0b11001011#8, 0b00111001#8] = .ok (.srl_c, []) ∧
    decode [0b11001011#8, 0b00111010#8] = .ok (.srl_d, []) ∧
    decode [0b11001011#8, 0b00111011#8] = .ok (.srl_e, []) ∧
    decode [0b11001011#8, 0b00111100#8] = .ok (.srl_h, []) ∧
    decode [0b11001011#8, 0b00111101#8] = .ok (.srl_l, []) ∧
    decode [0b11001011#8, 0b00111110#8] = .ok (.srl_mhl, []) ∧
    decode [0b11001011#8, 0b00111111#8] = .ok (.srl_a, []) :=
  ⟨rfl, rfl, rfl, rfl, rfl, rfl, rfl, rfl, rfl, rfl, rfl, rfl, rfl, rfl, rfl, rfl⟩
theorem test_decode_cb4 :
    decode [0b11001011#8, 0b01000000#8] = .ok (.bit_0_b, []) ∧
    decode [0b11001011#8, 0b01000001#8] = .ok (.bit_0_c, []) ∧
    decode [0b11001011#8, 0b01000010#8] = .ok (.bit_0_d, []) ∧
    decode [0b11001011#8, 0b01000011#8] = .ok (.bit_0_e, []) ∧
    decode [0b11001011#8, 0b01000100#8] = .ok (.bit_0_h, []) ∧
    decode [0b11001011#8, 0b01000101#8] = .ok (.bit_0_l, []) ∧
    decode [0b11001011#8, 0b01000110#8] = .ok (.bit_0_mhl, []) ∧
    decode [0b11001011#8, 0b01000111#8] = .ok (.bit_0_a, []) ∧
    decode [0b11001011#8, 0b01001000#8] = .ok (.bit_1_b, []) ∧
    decode [0b11001011#8, 0b01001001#8] = .ok (.bit_1_c, []) ∧
    decode [0b11001011#8, 0b01001010#8] = .ok (.bit_1_d, []) ∧
    decode [0b11001011#8, 0b01001011#8] = .ok (.bit_1_e, []) ∧
    decode [0b11001011#8, 0b01001100#8] = .ok (.bit_1_h, []) ∧
    decode [0b11001011#8, 0b01001101#8] = .ok (.bit_1_l, []) ∧
    decode [0b11001011#8, 0b01001110#8] = .ok (.bit_1_mhl, []) ∧
    decode [0b11001011#8, 0b01001111#8] = .ok (.bit_1_a, []) :=
  ⟨rfl, rfl, rfl, rfl, rfl, rfl, rfl, rfl, rfl, rfl, rfl, rfl, rfl, rfl, rfl, rfl⟩
theorem test_decode_cb5 :
    decode [0b11001011#8, 0b01010000#8] = .ok (.bit_2_b, []) ∧
    decode [0b11001011#8, 0b01010001#8] = .ok (.bit_2_c, []) ∧
    decode [0b11001011#8, 0b01010010#8] = .ok (.bit_2_d, []) ∧
    decode [0b11001011#8, 0b01010011#8] = .ok (.bit_2_e, []) ∧
    decode [0b11001011#8, 0b01010100#8] = .ok (.bit_2_h, []) ∧
    decode [0b11001011#8, 0b01010101#8] = .ok (.bit_2_l, []) ∧
    decode [0b11001011#8, 0b01010110#8] = .ok (.bit_2_mhl, []) ∧
    decode [0b11001011#8, 0b01010111#8] = .ok (.bit_2_a, []) ∧
    decode [0b11001011#8, 0b01011000#8] = .ok (.bit_3_b, []) ∧
    decode [0b11001011#8, 0b01011001#8] = .ok (.bit_3_c, []) ∧
    decode [0b11001011#8, 0b01011010#8] = .ok (.bit_3_d, []) ∧
    decode [0b11001011#8, 0b01011011#8] = .ok (.bit_3_e, []) ∧
    decode [0b11001011#8, 0b01011100#8] = .ok (.bit_3_h, []) ∧
    decode [0b11001011#8, 0b01011101#8] = .ok (.bit_3_l, []) ∧
    decode [0b11001011#8, 0b01011110#8] = .ok (.bit_3_mhl, []) ∧
    decode [0b11001011#8, 0b01011111#8] = .ok (.bit_3_a, []) :=
  ⟨rfl, rfl, rfl, rfl, rfl, rfl, rfl, rfl, rfl, rfl, rfl, rfl, rfl, rfl, rfl, rfl⟩
theorem test_decode_cb6 :
    decode [0b11001011#8, 0b01100000#8] = .ok (.bit_4_b, []) ∧
    decode [0b11001011#8, 0b01100001#8] = .ok (.bit_4_c, []) ∧
    decode [0b11001011#8, 0b01100010#8] = .ok (.bit_4_d, []) ∧
    decode [0b11001011#8, 0b01100011#8] = .ok (.bit_4_e, []) ∧
    decode [0b11001011#8, 0b01100100#8] = .ok (.bit_4_h, []) ∧
    decode [0b11001011#8, 0b01100101#8] = .ok (.bit_4_l, []) ∧
    decode [0b11001011#8, 0b01100110#8] = .ok (.bit_4_mhl, []) ∧
    decode [0b11001011#8, 0b01100111#8] = .ok (.bit_4_a, []) ∧
    decode [0b11001011#8, 0b01101000#8] = .ok (.bit_5_b, []) ∧
    decode [0b11001011#8, 0b01101001#8] = .ok (.bit_5_c, []) ∧
    decode [0b11001011#8, 0b01101010#8] = .ok (.bit_5_d, []) ∧
    decode [0b11001011#8, 0b01101011#8] = .ok (.bit_5_e, []) ∧
    decode [0b11001011#8, 0b01101100#8] = .ok (.bit_5_h, []) ∧
    decode [0b11001011#8, 0b01101101#8] = .ok (.bit_5_l, []) ∧
    decode [0b11001011#8, 0b01101110#8] = .ok (.bit_5_mhl, []) ∧
    decode [0b11001011#8, 0b01101111#8] = .ok (.bit_5_a, []) :=
  ⟨rfl, rfl, rfl, rfl, rfl, rfl, rfl, rfl, rfl, rfl, rfl, rfl, rfl, rfl, rfl, rfl⟩
theorem test_decode_cb7 :
    decode [0b11001011#8, 0b01110000#8] = .ok (.bit_6_b, []) ∧
    decode [0b11001011#8, 0b01110001#8] = .ok (.bit_6_c, []) ∧
    decode [0b11001011#8, 0b01110010#8] = .ok (.bit_6_d, []) ∧
    decode [0b11001011#8, 0b01110011#8] = .ok (.bit_6_e, []) ∧
    decode [0b11001011#8, 0b01110100#8] = .ok (.bit_6_h, []) ∧
    decode [0b11001011#8, 0b01110101#8] = .ok (.bit_6_l, []) ∧
    decode [0b11001011#8, 0b01110110#8] = .ok (.bit_6_mhl, []) ∧
    decode [0b11001011#8, 0b01110111#8] = .ok (.bit_6_a, []) ∧
    decode [0b11001011#8, 0b01111000#8] = .ok (.bit_7_b, []) ∧
    decode [0b11001011#8, 0b01111001#8] = .ok (.bit_7_c, []) ∧
    decode [0b11001011#8, 0b01111010#8] = .ok (.bit_7_d, []) ∧
    decode [0b11001011#8, 0b01111011#8] = .ok (.bit_7_e, []) ∧
    decode [0b11001011#8, 0b01111100#8] = .ok (.bit_7_h, []) ∧
    decode [0b11001011#8, 0b01111101#8] = .ok (.bit_7_l, []) ∧
    decode [0b11001011#8, 0b01111110#8] = .ok (.bit_7_mhl, []) ∧
    decode [0b11001011#8, 0b01111111#8] = .ok (.bit_7_a, []) :=
  ⟨rfl, rfl, rfl, rfl, rfl, rfl, rfl, rfl, rfl, rfl, rfl, rfl, rfl, rfl, rfl, rfl⟩
theorem test_decode_cb8 :
    decode [0b11001011#8, 0b10000000#8] = .ok (.res_0_b, []) ∧
    decode [0b11001011#8, 0b10000001#8] = .ok (.res_0_c, []) ∧
    decode [0b11001011#8, 0b10000010#8] = .ok (.res_0_d, []) ∧
    decode [0b11001011#8, 0b10000011#8] = .ok (.res_0_e, []) ∧
    decode [0b11001011#8, 0b10000100#8] = .ok (.res_0_h, []) ∧
    decode [0b11001011#8, 0b10000101#8] = .ok (.res_0_l, []) ∧
    decode [0b11001011#8, 0b10000110#8] = .ok (.res_0_mhl, []) ∧
    decode [0b11001011#8, 0b10000111#8] = .ok (.res_0_a, []) ∧
    decode [0b11001011#8, 0b10001000#8] = .ok (.res_1_b, []) ∧
    decode [0b11001011#8, 0b10001001#8] = .ok (.res_1_c, []) ∧
    decode [0b11001011#8, 0b10001010#8] = .ok (.res_1_d, []) ∧
    decode [0b11001011#8, 0b10001011#8] = .ok (.res_1_e, []) ∧
    decode [0b11001011#8, 0b10001100#8] = .ok (.res_1_h, []) ∧
    decode [0b11001011#8, 0b10001101#8] = .ok (.res_1_l, []) ∧
    decode [0b11001011#8, 0b10001110#8] = .ok (.res_1_mhl, []) ∧
    decode [0b11001011#8, 0b10001111#8] = .ok (.res_1_a, []) :=
  ⟨rfl, rfl, rfl, rfl, rfl, rfl, rfl, rfl, rfl, rfl, rfl, rfl, rfl, rfl, rfl, rfl⟩
theorem test_decode_cb9 :
    decode [0b11001011#8, 0b10010000#8] = .ok (.res_2_b, []) ∧
    decode [0b11001011#8, 0b10010001#8] = .ok (.res_2_c, []) ∧
    decode [0b11001011#8, 0b10010010#8] = .ok (.res_2_d, []) ∧
    decode [0b11001011#8, 0b10010011#8] = .ok (.res_2_e, []) ∧
    decode [0b11001011#8, 0b10010100#8] = .ok (.res_2_h, []) ∧
    decode [0b11001011#8, 0b10010101#8] = .ok (.res_2_l, []) ∧
    decode [0b11001011#8, 0b10010110#8] = .ok (.res_2_mhl, []) ∧
    decode [0b11001011#8, 0b10010111#8] = .ok (.res_2_a, []) ∧
    decode [0b11001011#8, 0b10011000#8] = .ok (.res_3_b, []) ∧
    decode [0b11001011#8, 0b10011001#8] = .ok (.res_3_c, []) ∧
    decode [0b11001011#8, 0b10011010#8] = .ok (.res_3_d, []) ∧
    decode [0b11001011#8, 0b10011011#8] = .ok (.res_3_e, []) ∧
    decode [0b11001011#8, 0b10011100#8] = .ok (.res_3_h, []) ∧
    decode [0b11001011#8, 0b10011101#8] = .ok (.res_3_l, []) ∧
    decode [0b11001011#8, 0b10011110#8] = .ok (.res_3_mhl, []) ∧
    decode [0b11001011#8, 0b10011111#8] = .ok (.res_3_a, []) :=
  ⟨rfl, rfl, rfl, rfl, rfl, rfl, rfl, rfl, rfl, rfl, rfl, rfl, rfl, rfl, rfl, rfl⟩
theorem test_decode_cbA :
    decode [0b11001011#8, 0b10100000#8] = .ok (.res_4_b, []) ∧
    decode [0b11001011#8, 0b10100001#8] = .ok (.res_4_c, []) ∧
    decode [0b11001011#8, 0b10100010#8] = .ok (.res_4_d, []) ∧
    decode [0b11001011#8, 0b10100011#8] = .ok (.res_4_e, []) ∧
    decode [0b11001011#8, 0b10100100#8] = .ok (.res_4_h, []) ∧
    decode [0b11001011#8, 0b10100101#8] = .ok (.res_4_l, []) ∧
    decode [0b11001011#8, 0b10100110#8] = .ok (.res_4_mhl, []) ∧
    decode [0b11001011#8, 0b10100111#8] = .ok (.res_4_a, []) ∧
    decode [0b11001011#8, 0b10101000#8] = .ok (.res_5_b, []) ∧
    decode [0b11001011#8, 0b10101001#8] = .ok (.res_5_c, []) ∧
    decode [0b11001011#8, 0b10101010#8] = .ok (.res_5_d, []) ∧
    decode [0b11001011#8, 0b10101011#8] = .ok (.res_5_e, []) ∧
    decode [0b11001011#8, 0b10101100#8] = .ok (.res_5_h, []) ∧
    decode [0b11001011#8, 0b10101101#8] = .ok (.res_5_l, []) ∧
    decode [0b11001011#8, 0b10101110#8] = .ok (.res_5_mhl, []) ∧
    decode [0b11001011#8, 0b10101111#8] = .ok (.res_5_a, []) :=
  ⟨rfl, rfl, rfl, rfl, rfl, rfl, rfl, rfl, rfl, rfl, rfl, rfl, rfl, rfl, rfl, rfl⟩
theorem test_decode_cbB :
    decode [0b11001011#8, 0b10110000#8] = .ok (.res_6_b, []) ∧
    decode [0b11001011#8, 0b10110001#8] = .ok (.res_6_c, []) ∧
    decode [0b11001011#8, 0b10110010#8] = .ok (.res_6_d, []) ∧
    decode [0b11001011#8, 0b10110011#8] = .ok (.res_6_e, []) ∧
    decode [0b11001011#8, 0b10110100#8] = .ok (.res_6_h, []) ∧
    decode [0b11001011#8, 0b10110101#8] = .ok (.res_6_l, []) ∧
    decode [0b11001011#8, 0b10110110#8] = .ok (.res_6_mhl, []) ∧
    decode [0b11001011#8, 0b10110111#8] = .ok (.res_6_a, []) ∧
    decode [0b11001011#8, 0b10111000#8] = .ok (.res_7_b, []) ∧
    decode [0b11001011#8, 0b10111001#8] = .ok (.res_7_c, []) ∧
    decode [0b11001011#8, 0b10111010#8] = .ok (.res_7_d, []) ∧
    decode [0b11001011#8, 0b10111011#8] = .ok (.res_7_e, []) ∧
    decode [0b11001011#8, 0b10111100#8] = .ok (.res_7_h, []) ∧
    decode [0b11001011#8, 0b10111101#8] = .ok (.res_7_l, []) ∧
    decode [0b11001011#8, 0b10111110#8] = .ok (.res_7_mhl, []) ∧
    decode [0b11001011#8, 0b10111111#8] = .ok (.res_7_a, []) :=
  ⟨rfl, rfl, rfl, rfl, rfl, rfl, rfl, rfl, rfl, rfl, rfl, rfl, rfl, rfl, rfl, rfl⟩
theorem test_decode_cbC :
    decode [0b11001011#8, 0b11000000#8] = .ok (.set_0_b, []) ∧
    decode [0b11001011#8, 0b11000001#8] = .ok (.set_0_c, []) ∧
    decode [0b11001011#8, 0b11000010#8] = .ok (.set_0_d, []) ∧
    decode [0b11001011#8, 0b11000011#8] = .ok (.set_0_e, []) ∧
    decode [0b11001011#8, 0b11000100#8] = .ok (.set_0_h, []) ∧
    decode [0b11001011#8, 0b11000101#8] = .ok (.set_0_l, []) ∧
    decode [0b11001011#8, 0b11000110#8] = .ok (.set_0_mhl, []) ∧
    decode [0b11001011#8, 0b11000111#8] = .ok (.set_0_a, []) ∧
    decode [0b11001011#8, 0b11001000#8] = .ok (.set_1_b, []) ∧
    decode [0b11001011#8, 0b11001001#8] = .ok (.set_1_c, []) ∧
    decode [0b11001011#8, 0b11001010#8] = .ok (.set_1_d, []) ∧
    decode [0b11001011#8, 0b11001011#8] = .ok (.set_1_e, []) ∧
    decode [0b11001011#8, 0b11001100#8] = .ok (.set_1_h, []) ∧
    decode [0b11001011#8, 0b11001101#8] = .ok (.set_1_l, []) ∧
    decode [0b11001011#8, 0b11001110#8] = .ok (.set_1_mhl, []) ∧
    decode [0b11001011#8, 0b11001111#8] = .ok (.set_1_a, []) :=
  ⟨rfl, rfl, rfl, rfl, rfl, rfl, rfl, rfl, rfl, rfl, rfl, rfl, rfl, rfl, rfl, rfl⟩
theorem test_decode_cbD :
    decode [0b11001011#8, 0b11010000#8] = .ok (.set_2_b, []) ∧
    decode [0b11001011#8, 0b11010001#8] = .ok (.set_2_c, []) ∧
    decode [0b11001011#8, 0b11010010#8] = .ok (.set_2_d, []) ∧
    decode [0b11001011#8, 0b11010011#8] = .ok (.set_2_e, []) ∧
    decode [0b11001011#8, 0b11010100#8] = .ok (.set_2_h, []) ∧
    decode [0b11001011#8, 0b11010101#8] = .ok (.set_2_l, []) ∧
    decode [0b11001011#8, 0b11010110#8] = .ok (.set_2_mhl, []) ∧
    decode [0b11001011#8, 0b11010111#8] = .ok (.set_2_a, []) ∧
    decode [0b11001011#8, 0b11011000#8] = .ok (.set_3_b, []) ∧
    decode [0b11001011#8, 0b11011001#8] = .ok (.set_3_c, []) ∧
    decode [0b11001011#8, 0b11011010#8] = .ok (.set_3_d, []) ∧
    decode [0b11001011#8, 0b11011011#8] = .ok (.set_3_e, []) ∧
    decode [0b11001011#8, 0b11011100#8] = .ok (.set_3_h, []) ∧
    decode [0b11001011#8, 0b11011101#8] = .ok (.set_3_l, []) ∧
    decode [0b11001011#8, 0b11011110#8] = .ok (.set_3_mhl, []) ∧
    decode [0b11001011#8, 0b11011111#8] = .ok (.set_3_a, []) :=
  ⟨rfl, rfl, rfl, rfl, rfl, rfl, rfl, rfl, rfl, rfl, rfl, rfl, rfl, rfl, rfl, rfl⟩
theorem test_decode_cbE :
    decode [0b11001011#8, 0b11100000#8] = .ok (.set_4_b, []) ∧
    decode [0b11001011#8, 0b11100001#8] = .ok (.set_4_c, []) ∧
    decode [0b11001011#8, 0b11100010#8] = .ok (.set_4_d, []) ∧
    decode [0b11001011#8, 0b11100011#8] = .ok (.set_4_e, []) ∧
    decode [0b11001011#8, 0b11100100#8] = .ok (.set_4_h, []) ∧
    decode [0b11001011#8, 0b11100101#8] = .ok (.set_4_l, []) ∧
    decode [0b11001011#8, 0b11100110#8] = .ok (.set_4_mhl, []) ∧
    decode [0b11001011#8, 0b11100111#8] = .ok (.set_4_a, []) ∧
    decode [0b11001011#8, 0b11101000#8] = .ok (.set_5_b, []) ∧
    decode [0b11001011#8, 0b11101001#8] = .ok (.set_5_c, []) ∧
    decode [0b11001011#8, 0b11101010#8] = .ok (.set_5_d, []) ∧
    decode [0b11001011#8, 0b11101011#8] = .ok (.set_5_e, []) ∧
    decode [0b11001011#8, 0b11101100#8] = .ok (.set_5_h, []) ∧
    decode [0b11001011#8, 0b11101101#8] = .ok (.set_5_l, []) ∧
    decode [0b11001011#8, 0b11101110#8] = .ok (.set_5_mhl, []) ∧
    decode [0b11001011#8, 0b11101111#8] = .ok (.set_5_a, []) :=
  ⟨rfl, rfl, rfl, rfl, rfl, rfl, rfl, rfl, rfl, rfl, rfl, rfl, rfl, rfl, rfl, rfl⟩
theorem test_decode_cbF :
    decode [0b11001011#8, 0b11110000#8] = .ok (.set_6_b, []) ∧
    decode [0b11001011#8, 0b11110001#8] = .ok (.set_6_c, []) ∧
    decode [0b11001011#8, 0b11110010#8] = .ok (.set_6_d, []) ∧
    decode [0b11001011#8, 0b11110011#8] = .ok (.set_6_e, []) ∧
    decode [0b11001011#8, 0b11110100#8] = .ok (.set_6_h, []) ∧
    decode [0b11001011#8, 0b11110101#8] = .ok (.set_6_l, []) ∧
    decode [0b11001011#8, 0b11110110#8] = .ok (.set_6_mhl, []) ∧
    decode [0b11001011#8, 0b11110111#8] = .ok (.set_6_a, []) ∧
    decode [0b11001011#8, 0b11111000#8] = .ok (.set_7_b, []) ∧
    decode [0b11001011#8, 0b11111001#8] = .ok (.set_7_c, []) ∧
    decode [0b11001011#8, 0b11111010#8] = .ok (.set_7_d, []) ∧
    decode [0b11001011#8, 0b11111011#8] = .ok (.set_7_e, []) ∧
    decode [0b11001011#8, 0b11111100#8] = .ok (.set_7_h, []) ∧
    decode [0b11001011#8, 0b11111101#8] = .ok (.set_7_l, []) ∧
    decode [0b11001011#8, 0b11111110#8] = .ok (.set_7_mhl, []) ∧
    decode [0b11001011#8, 0b11111111#8] = .ok (.set_7_a, []) :=
  ⟨rfl, rfl, rfl, rfl, rfl, rfl, rfl, rfl, rfl, rfl, rfl, rfl, rfl, rfl, rfl, rfl⟩

/-! ## The table's numbering, and fetching a table word (log entries 1 and 9) -/

theorem test_table_word_cb : decodeTableWord 16 0xCB37 = some .swap_a := by decide
theorem test_table_word_short : decodeTableWord 8 0xC3 = some (.jp_nn 0) := by decide
theorem test_table_word_operand : decodeTableWord 24 0x1234C3 = some (.jp_nn 0x1234#16) := by decide
theorem test_fetch_word_ld : ∃ t, step (State.reset.withFetchWord 8 0x78) = .next t ∧ t.a = 0x00#8 ∧ t.pc = 0x0101#16 ∧
    t.cycles = 4 := ⟨_, rfl, by decide +kernel⟩
theorem test_fetch_word_cb : ∃ t, step (State.reset.withFetchWord 16 0xCB37) = .next t ∧ t.a = 0x10#8 ∧ t.pc = 0x0102#16 :=
  ⟨_, rfl, by decide +kernel⟩

/-! ## One step on a small machine: the bytes at 0xD000 of the reset machine without a cartridge (95_test_vectors) -/

/-- The reset machine with the given bytes at 0xD000 and the pc there. -/
def at0 (bytes : List Byte) : State := { State.reset with pc := 0xD000#16 }.placeBytes 0xD000#16 bytes

/-- The state after one CPU step. -/
def cpu (s : State) : State :=
  match s.cpuStep with
  | .next t => t
  | _ => s

/-- R400 -/
theorem test_ld_a_b : let t := cpu { at0 [0x78#8] with b := 0x12#8 }
    t.a = 0x12#8 ∧ t.pc = 0xD001#16 ∧ t.cycles = 4 := by decide
/-- R401 -/
theorem test_ld_c_n : let t := cpu (at0 [0x0E#8, 0x5A#8])
    t.c = 0x5A#8 ∧ t.pc = 0xD002#16 ∧ t.cycles = 8 := by decide
/-- R402: read with the old HL -/
theorem test_ld_h_mhl : let t := cpu { (at0 [0x66#8]).write 0xC000#16 0x99#8 with h := 0xC0#8, l := 0x00#8 }
    t.cycles = 8 ∧ t.h = 0x99#8 ∧ t.l = 0x00#8 := by decide
/-- R403 -/
theorem test_ld_mhl_l : let t := cpu { at0 [0x75#8] with h := 0xC1#8, l := 0x23#8 }
    t.cycles = 8 ∧ t.read 0xC123#16 = 0x23#8 := by decide
/-- R404: a store over its own operand -/
theorem test_ld_mhl_n : let t := cpu { at0 [0x36#8, 0x7F#8] with h := 0xD0#8, l := 0x01#8 }
    t.cycles = 12 ∧ t.read 0xD001#16 = 0x7F#8 := by decide
/-- R405 -/
theorem test_ld_a_mbc : let t := cpu { at0 [0x0A#8] with b := 0xFE#8, c := 0xA5#8 }
    t.a = 0xFF#8 ∧ t.cycles = 8 := by decide
/-- R406 -/
theorem test_ld_a_mde : let t := cpu { at0 [0x1A#8] with d := 0xFF#8, e := 0x00#8 }
    t.a = 0xFF#8 ∧ t.cycles = 8 := by decide
/-- R407 -/
theorem test_ld_mbc_a : let t := cpu { at0 [0x02#8] with a := 0x44#8, b := 0xE0#8, c := 0x10#8 }
    t.cycles = 8 ∧ t.read 0xC010#16 = 0x44#8 := by decide
/-- R408 -/
theorem test_ld_mde_a : let t := cpu { at0 [0x12#8] with a := 0x01#8, d := 0xC2#8, e := 0x00#8 }
    t.cycles = 8 ∧ t.read 0xC200#16 = 0x01#8 := by decide
/-- R409 -/
theorem test_ld_a_mnn : let t := cpu ((at0 [0xFA#8, 0x44#8, 0xFF#8]).write 0xFF44#16 0x90#8)
    t.a = 0x90#8 ∧ t.pc = 0xD003#16 ∧ t.cycles = 16 := by decide
/-- V-L4: the unusable range -/
theorem test_ld_mnn_a : let t := cpu { at0 [0xEA#8, 0xA5#8, 0xFE#8] with a := 0x99#8 }
    t.cycles = 16 ∧ t.read 0xFEA5#16 = 0xFF#8 := by decide
/-- R411 -/
theorem test_ldh_a_mn : let t := cpu ((at0 [0xF0#8, 0xFF#8]).write 0xFFFF#16 0x01#8)
    t.a = 0x01#8 ∧ t.cycles = 12 := by decide
/-- R412 -/
theorem test_ldh_mn_a : let t := cpu { at0 [0xE0#8, 0xFF#8] with a := 0x05#8 }
    t.cycles = 12 ∧ t.read 0xFF7F#16 = 0x05#8 := by decide
/-- R413 -/
theorem test_ld_a_mc : let t := cpu { (at0 [0xF2#8]).write 0xFF80#16 0x3C#8 with c := 0x80#8 }
    t.a = 0x3C#8 ∧ t.cycles = 8 := by decide
/-- R414 -/
theorem test_ld_mc_a : let t := cpu { at0 [0xE2#8] with c := 0x47#8, a := 0xE4#8 }
    t.cycles = 8 ∧ t.read 0xFF47#16 = 0xE4#8 := by decide
/-- R415 -/
theorem test_ld_a_mhli : let t := cpu { (at0 [0x2A#8]).write 0xC000#16 0x11#8 with h := 0xC0#8, l := 0x00#8 }
    t.a = 0x11#8 ∧ t.cycles = 8 ∧ t.h = 0xC0#8 ∧ t.l = 0x01#8 := by decide
/-- V-L2 -/
theorem test_ld_a_mhld : let t := cpu { at0 [0x3A#8] with a := 0x00#8, h := 0x00#8, l := 0x00#8 }
    t.a = 0xFF#8 ∧ t.cycles = 8 ∧ t.h = 0xFF#8 ∧ t.l = 0xFF#8 := by decide
/-- V-L1 -/
theorem test_ld_mhli_a : let t := cpu { at0 [0x22#8] with a := 0x3C#8, h := 0xFF#8, l := 0xFF#8 }
    t.cycles = 8 ∧ t.h = 0x00#8 ∧ t.l = 0x00#8 ∧ t.read 0xFFFF#16 = 0x3C#8 := by decide
/-- R418 -/
theorem test_ld_mhld_a : let t := cpu { (at0 [0x32#8]).write 0xDFFF#16 0x07#8 with a := 0x00#8, h := 0xDF#8, l := 0xFF#8 }
    t.cycles = 8 ∧ t.h = 0xDF#8 ∧ t.l = 0xFE#8 ∧ t.read 0xDFFF#16 = 0x00#8 := by decide
/-- R440 -/
theorem test_ld_sp_nn : let t := cpu (at0 [0x31#8, 0xFE#8, 0xDF#8])
    t.sp = 0xDFFE#16 ∧ t.cycles = 12 := by decide
/-- R441 -/
theorem test_ld_mnn_sp : let t := cpu { at0 [0x08#8, 0x00#8, 0xC1#8] with sp := 0xFFF8#16 }
    t.pc = 0xD003#16 ∧ t.cycles = 20 ∧ t.read 0xC100#16 = 0xF8#8 ∧ t.read 0xC101#16 = 0xFF#8 := by decide
/-- R442 -/
theorem test_ld_sp_hl : let t := cpu { at0 [0xF9#8] with h := 0xDF#8, l := 0xF0#8 }
    t.sp = 0xDFF0#16 ∧ t.cycles = 8 := by decide
/-- V-S5 -/
theorem test_ld_hl_sp_carry : let t := cpu { at0 [0xF8#8, 0x01#8] with sp := 0x00FF#16 }
    t.f = 0x30#8 ∧ t.cycles = 12 ∧ t.h = 0x01#8 ∧ t.l = 0x00#8 := by decide
/-- V-S6 -/
theorem test_ld_hl_sp_minus : let t := cpu { at0 [0xF8#8, 0xFF#8] with sp := 0x0000#16 }
    t.f = 0x00#8 ∧ t.h = 0xFF#8 ∧ t.l = 0xFF#8 := by decide
/-- V-S1: the high byte first, into the cartridge, the low byte into IE -/
theorem test_push_bc : let t := cpu { at0 [0xC5#8] with sp := 0x0001#16, b := 0xAB#8, c := 0xCD#8 }
    t.sp = 0xFFFF#16 ∧ t.cycles = 16 ∧ t.read 0xFFFF#16 = 0xCD#8 := by decide
/-- R452 -/
theorem test_push_bc_ram : let t := cpu { at0 [0xC5#8] with sp := 0xFFFE#16, b := 0x12#8, c := 0x34#8 }
    t.sp = 0xFFFC#16 ∧ t.read 0xFFFD#16 = 0x12#8 ∧ t.read 0xFFFC#16 = 0x34#8 := by decide
/-- V-S2 -/
theorem test_pop_hl : let t := cpu { ((at0 [0xE1#8]).write 0xFFFE#16 0x34#8).write 0xFFFF#16 0x12#8 with sp := 0xFFFE#16 }
    t.sp = 0x0000#16 ∧ t.cycles = 12 ∧ t.h = 0x12#8 ∧ t.l = 0x34#8 := by decide
/-- R453 -/
theorem test_pop_af : let t := cpu { ((at0 [0xF1#8]).write 0xC000#16 0xFF#8).write 0xC001#16 0x12#8 with sp := 0xC000#16 }
    t.a = 0x12#8 ∧ t.f = 0xF0#8 ∧ t.sp = 0xC002#16 ∧ t.cycles = 12 := by decide
/-- V-S3 -/
theorem test_pop_af_low : let t := cpu { (at0 [0xF1#8]).write 0xC000#16 0x0F#8 with sp := 0xC000#16 }
    t.a = 0x00#8 ∧ t.f = 0x00#8 := by decide
/-- R503 -/
theorem test_add_a_b : let t := cpu { at0 [0x80#8] with a := 0x3A#8, b := 0xC6#8 }
    t.a = 0x00#8 ∧ t.f = 0xB0#8 ∧ t.cycles = 4 := by decide
/-- V-A4 -/
theorem test_add_a_a : let t := cpu { at0 [0x87#8] with a := 0x80#8 }
    t.a = 0x00#8 ∧ t.f = 0x90#8 := by decide
/-- R504 -/
theorem test_add_a_mhl : let t := cpu { (at0 [0x86#8]).write 0xC800#16 0x12#8 with a := 0x3C#8, h := 0xC8#8, l := 0x00#8 }
    t.a = 0x4E#8 ∧ t.f = 0x00#8 ∧ t.cycles = 8 := by decide
/-- R505 -/
theorem test_add_a_n : let t := cpu { at0 [0xC6#8, 0xFF#8] with a := 0x3C#8 }
    t.a = 0x3B#8 ∧ t.f = 0x30#8 ∧ t.cycles = 8 := by decide
/-- R506 -/
theorem test_adc_a_e : let t := cpu { at0 [0x8B#8] with a := 0xE1#8, e := 0x0F#8, f := 0x10#8 }
    t.a = 0xF1#8 ∧ t.f = 0x20#8 ∧ t.cycles = 4 := by decide
/-- R507 -/
theorem test_adc_a_mhl : let t := cpu { (at0 [0x8E#8]).write 0xC800#16 0x1E#8 with a := 0xE1#8, f := 0x10#8, h := 0xC8#8, l := 0x00#8 }
    t.a = 0x00#8 ∧ t.f = 0xB0#8 ∧ t.cycles = 8 := by decide
/-- V-A1 -/
theorem test_adc_a_n : let t := cpu { at0 [0xCE#8, 0x00#8] with a := 0xFF#8, f := 0x10#8 }
    t.a = 0x00#8 ∧ t.f = 0xB0#8 := by decide
/-- R509 -/
theorem test_sub_e : let t := cpu { at0 [0x93#8] with a := 0x3E#8, e := 0x3E#8 }
    t.a = 0x00#8 ∧ t.f = 0xC0#8 ∧ t.cycles = 4 := by decide
/-- R510 -/
theorem test_sub_mhl : let t := cpu { (at0 [0x96#8]).write 0xC800#16 0x40#8 with a := 0x3E#8, h := 0xC8#8, l := 0x00#8 }
    t.a = 0xFE#8 ∧ t.f = 0x50#8 ∧ t.cycles = 8 := by decide
/-- V-A3 -/
theorem test_sub_n : let t := cpu { at0 [0xD6#8, 0x01#8] with a := 0x10#8, f := 0x00#8 }
    t.a = 0x0F#8 ∧ t.f = 0x60#8 ∧ t.cycles = 8 := by decide
/-- R512 -/
theorem test_sbc_a_h : let t := cpu { at0 [0x9C#8] with a := 0x3B#8, h := 0x2A#8, f := 0x10#8 }
    t.a = 0x10#8 ∧ t.f = 0x40#8 ∧ t.cycles = 4 := by decide
/-- R513 -/
theorem test_sbc_a_mhl : let t := cpu { (at0 [0x9E#8]).write 0xC800#16 0x4F#8 with a := 0x3B#8, f := 0x10#8, h := 0xC8#8, l := 0x00#8 }
    t.a = 0xEB#8 ∧ t.f = 0x70#8 ∧ t.cycles = 8 := by decide
/-- V-A2 -/
theorem test_sbc_a_n : let t := cpu { at0 [0xDE#8, 0xFF#8] with a := 0x00#8, f := 0x10#8 }
    t.a = 0x00#8 ∧ t.f = 0xF0#8 := by decide
/-- R515 -/
theorem test_and_l : let t := cpu { at0 [0xA5#8] with a := 0x5A#8, l := 0x3F#8 }
    t.a = 0x1A#8 ∧ t.f = 0x20#8 ∧ t.cycles = 4 := by decide
/-- R516 -/
theorem test_and_mhl : let t := cpu { at0 [0xA6#8] with a := 0x5A#8, h := 0xC8#8, l := 0x00#8 }
    t.a = 0x00#8 ∧ t.f = 0xA0#8 ∧ t.cycles = 8 := by decide
/-- R517 -/
theorem test_and_n : let t := cpu { at0 [0xE6#8, 0x38#8] with a := 0x5A#8 }
    t.a = 0x18#8 ∧ t.f = 0x20#8 := by decide
/-- R518 -/
theorem test_xor_a : let t := cpu { at0 [0xAF#8] with a := 0x5A#8 }
    t.a = 0x00#8 ∧ t.f = 0x80#8 := by decide
/-- R519 -/
theorem test_xor_mhl : let t := cpu { (at0 [0xAE#8]).write 0xC800#16 0x8A#8 with a := 0xFF#8, h := 0xC8#8, l := 0x00#8 }
    t.a = 0x75#8 ∧ t.f = 0x00#8 := by decide
/-- R522 -/
theorem test_or_mhl : let t := cpu { (at0 [0xB6#8]).write 0xC800#16 0x0F#8 with a := 0x5A#8, h := 0xC8#8, l := 0x00#8 }
    t.a = 0x5F#8 ∧ t.f = 0x00#8 := by decide
/-- R523 -/
theorem test_or_n : let t := cpu { at0 [0xF6#8, 0x03#8] with a := 0x5A#8 }
    t.a = 0x5B#8 ∧ t.f = 0x00#8 ∧ t.cycles = 8 := by decide
/-- R524 -/
theorem test_cp_b : let t := cpu { at0 [0xB8#8] with a := 0x3C#8, b := 0x2F#8 }
    t.a = 0x3C#8 ∧ t.f = 0x60#8 := by decide
/-- V-A5 -/
theorem test_cp_a : let t := cpu { at0 [0xBF#8] with a := 0x12#8 }
    t.a = 0x12#8 ∧ t.f = 0xC0#8 := by decide
/-- R525 -/
theorem test_cp_mhl : let t := cpu { (at0 [0xBE#8]).write 0xC800#16 0x40#8 with a := 0x3C#8, h := 0xC8#8, l := 0x00#8 }
    t.a = 0x3C#8 ∧ t.f = 0x50#8 := by decide
/-- S1 -/
theorem test_inc_a_half : let t := cpu { at0 [0x3C#8] with a := 0x0F#8, f := 0x10#8 }
    t.a = 0x10#8 ∧ t.f = 0x30#8 ∧ t.cycles = 4 := by decide
/-- S2 -/
theorem test_inc_a_wrap : let t := cpu { at0 [0x3C#8] with a := 0xFF#8, f := 0x00#8 }
    t.a = 0x00#8 ∧ t.f = 0xA0#8 := by decide
/-- V-A9 -/
theorem test_inc_mhl : let t := cpu { (at0 [0x34#8]).write 0xC800#16 0xFF#8 with f := 0x10#8, h := 0xC8#8, l := 0x00#8 }
    t.f = 0xB0#8 ∧ t.cycles = 12 ∧ t.read 0xC800#16 = 0x00#8 := by decide
/-- R529 -/
theorem test_dec_l : let t := cpu { at0 [0x2D#8] with l := 0x01#8 }
    t.l = 0x00#8 ∧ t.f = 0xD0#8 ∧ t.cycles = 4 := by decide
/-- R530 -/
theorem test_dec_mhl : let t := cpu { at0 [0x35#8] with f := 0x00#8, h := 0xC8#8, l := 0x00#8 }
    t.f = 0x60#8 ∧ t.cycles = 12 ∧ t.read 0xC800#16 = 0xFF#8 := by decide
/-- V-A6 -/
theorem test_daa_add : let t := cpu { at0 [0x27#8] with a := 0x9A#8, f := 0x00#8 }
    t.a = 0x00#8 ∧ t.f = 0x90#8 ∧ t.cycles = 4 := by decide
/-- V-A7 -/
theorem test_daa_sub : let t := cpu { at0 [0x27#8] with a := 0xEE#8, f := 0x70#8 }
    t.a = 0x88#8 ∧ t.f = 0x50#8 := by decide
/-- R532 -/
theorem test_cpl : let t := cpu { at0 [0x2F#8] with a := 0x35#8, f := 0x00#8 }
    t.a = 0xCA#8 ∧ t.f = 0x60#8 ∧ t.cycles = 4 := by decide
/-- R533 -/
theorem test_scf : let t := cpu { at0 [0x37#8] with f := 0xE0#8 }
    t.f = 0x90#8 ∧ t.cycles = 4 := by decide
/-- V-A10 -/
theorem test_ccf : let t := cpu { at0 [0x3F#8] with f := 0x70#8 }
    t.f = 0x00#8 ∧ t.cycles = 4 := by decide
/-- V-W1 -/
theorem test_add_hl_bc : let t := cpu { at0 [0x09#8] with f := 0x80#8, h := 0x0F#8, l := 0xFF#8, b := 0x00#8, c := 0x01#8 }
    t.f = 0xA0#8 ∧ t.cycles = 8 ∧ t.h = 0x10#8 ∧ t.l = 0x00#8 := by decide
/-- R550 -/
theorem test_add_hl_hl : let t := cpu { at0 [0x29#8] with f := 0x00#8, h := 0x8A#8, l := 0x23#8 }
    t.f = 0x30#8 ∧ t.h = 0x14#8 ∧ t.l = 0x46#8 := by decide
/-- V-W3 -/
theorem test_add_sp_plus : let t := cpu { at0 [0xE8#8, 0x01#8] with sp := 0x000F#16 }
    t.sp = 0x0010#16 ∧ t.f = 0x20#8 ∧ t.cycles = 16 := by decide
/-- V-W4 -/
theorem test_add_sp_minus : let t := cpu { at0 [0xE8#8, 0xFE#8] with sp := 0x0001#16 }
    t.sp = 0xFFFF#16 ∧ t.f = 0x00#8 := by decide
/-- V-W6 -/
theorem test_inc_hl : let t := cpu { at0 [0x23#8] with h := 0xFF#8, l := 0xFF#8 }
    t.f = 0xB0#8 ∧ t.cycles = 8 ∧ t.h = 0x00#8 ∧ t.l = 0x00#8 := by decide
/-- V-W5 -/
theorem test_dec_sp : let t := cpu { at0 [0x3B#8] with sp := 0x0000#16, f := 0xF0#8 }
    t.sp = 0xFFFF#16 ∧ t.f = 0xF0#8 ∧ t.cycles = 8 := by decide
/-- V-R1 -/
theorem test_rlca : let t := cpu { at0 [0x07#8] with a := 0x00#8, f := 0x80#8 }
    t.a = 0x00#8 ∧ t.f = 0x00#8 ∧ t.cycles = 4 := by decide
/-- R600 -/
theorem test_rlca_bit : let t := cpu { at0 [0x07#8] with a := 0x85#8, f := 0x00#8 }
    t.a = 0x0B#8 ∧ t.f = 0x10#8 := by decide
/-- R601 -/
theorem test_rrca : let t := cpu { at0 [0x0F#8] with a := 0x3B#8 }
    t.a = 0x9D#8 ∧ t.f = 0x10#8 := by decide
/-- R602 -/
theorem test_rla : let t := cpu { at0 [0x17#8] with a := 0x95#8, f := 0x10#8 }
    t.a = 0x2B#8 ∧ t.f = 0x10#8 := by decide
/-- R603 -/
theorem test_rra : let t := cpu { at0 [0x1F#8] with a := 0x81#8, f := 0x00#8 }
    t.a = 0x40#8 ∧ t.f = 0x10#8 := by decide
/-- R604 -/
theorem test_rlc_b : let t := cpu { at0 [0xCB#8, 0x00#8] with b := 0x85#8, f := 0x00#8 }
    t.b = 0x0B#8 ∧ t.f = 0x10#8 ∧ t.cycles = 8 ∧ t.pc = 0xD002#16 := by decide
/-- R606 -/
theorem test_rrc_c : let t := cpu { at0 [0xCB#8, 0x09#8] with c := 0x01#8 }
    t.c = 0x80#8 ∧ t.f = 0x10#8 := by decide
/-- V-R3 -/
theorem test_rl_mhl : let t := cpu { (at0 [0xCB#8, 0x16#8]).write 0xC800#16 0x80#8 with f := 0x10#8, h := 0xC8#8, l := 0x00#8 }
    t.f = 0x10#8 ∧ t.cycles = 16 ∧ t.read 0xC800#16 = 0x01#8 := by decide
/-- R608 -/
theorem test_rl_l : let t := cpu { at0 [0xCB#8, 0x15#8] with l := 0x80#8, f := 0x00#8 }
    t.l = 0x00#8 ∧ t.f = 0x90#8 := by decide
/-- R610 -/
theorem test_rr_a : let t := cpu { at0 [0xCB#8, 0x1F#8] with a := 0x01#8, f := 0x00#8 }
    t.a = 0x00#8 ∧ t.f = 0x90#8 := by decide
/-- R611 -/
theorem test_rr_mhl : let t := cpu { (at0 [0xCB#8, 0x1E#8]).write 0xC800#16 0x8A#8 with f := 0x00#8, h := 0xC8#8, l := 0x00#8 }
    t.f = 0x00#8 ∧ t.cycles = 16 ∧ t.read 0xC800#16 = 0x45#8 := by decide
/-- R612 -/
theorem test_sla_d : let t := cpu { at0 [0xCB#8, 0x22#8] with d := 0x80#8 }
    t.d = 0x00#8 ∧ t.f = 0x90#8 := by decide
/-- V-R7 -/
theorem test_sra_a : let t := cpu { at0 [0xCB#8, 0x2F#8] with a := 0x80#8, f := 0x00#8 }
    t.a = 0xC0#8 ∧ t.f = 0x00#8 := by decide
/-- R616 -/
theorem test_swap_a : let t := cpu { at0 [0xCB#8, 0x37#8] with a := 0xF1#8 }
    t.a = 0x1F#8 ∧ t.f = 0x00#8 := by decide
/-- V-R4 -/
theorem test_swap_a_zero : let t := cpu { at0 [0xCB#8, 0x37#8] with a := 0x00#8, f := 0x10#8 }
    t.a = 0x00#8 ∧ t.f = 0x80#8 := by decide
/-- R619 -/
theorem test_srl_mhl : let t := cpu { (at0 [0xCB#8, 0x3E#8]).write 0xC800#16 0xFF#8 with f := 0x00#8, h := 0xC8#8, l := 0x00#8 }
    t.f = 0x10#8 ∧ t.cycles = 16 ∧ t.read 0xC800#16 = 0x7F#8 := by decide
/-- R620 -/
theorem test_bit_7_h : let t := cpu { at0 [0xCB#8, 0x7C#8] with h := 0x7F#8, f := 0x10#8 }
    t.f = 0xB0#8 ∧ t.h = 0x7F#8 ∧ t.cycles = 8 := by decide
/-- V-R5 -/
theorem test_bit_7_mhl : let t := cpu { (at0 [0xCB#8, 0x7E#8]).write 0xC800#16 0x80#8 with f := 0x10#8, h := 0xC8#8, l := 0x00#8 }
    t.f = 0x30#8 ∧ t.cycles = 12 ∧ t.read 0xC800#16 = 0x80#8 := by decide
/-- R622 -/
theorem test_res_7_a : let t := cpu { at0 [0xCB#8, 0xBF#8] with a := 0xFF#8, f := 0xF0#8 }
    t.a = 0x7F#8 ∧ t.f = 0xF0#8 := by decide
/-- R623 -/
theorem test_res_0_mhl : let t := cpu { (at0 [0xCB#8, 0x86#8]).write 0xC800#16 0x81#8 with h := 0xC8#8, l := 0x00#8 }
    t.cycles = 16 ∧ t.read 0xC800#16 = 0x80#8 := by decide
/-- R624 -/
theorem test_set_1_e : let t := cpu { at0 [0xCB#8, 0xCB#8] with e := 0x00#8 }
    t.e = 0x02#8 := by decide
/-- R625 -/
theorem test_set_7_mhl : let t := cpu { at0 [0xCB#8, 0xFE#8] with h := 0xC8#8, l := 0x00#8 }
    t.cycles = 16 ∧ t.read 0xC800#16 = 0x80#8 := by decide
/-- R650 -/
theorem test_jp_nn : let t := cpu (at0 [0xC3#8, 0x50#8, 0x01#8])
    t.pc = 0x0150#16 ∧ t.cycles = 16 := by decide
/-- V-C3 -/
theorem test_jp_c_not_taken : let t := cpu { at0 [0xDA#8, 0x34#8, 0x12#8] with f := 0x00#8 }
    t.pc = 0xD003#16 ∧ t.cycles = 12 := by decide
/-- V-C9 -/
theorem test_jp_hl : let t := cpu { at0 [0xE9#8] with h := 0xC8#8, l := 0x00#8 }
    t.pc = 0xC800#16 ∧ t.cycles = 4 := by decide
/-- V-C1 -/
theorem test_jr_z_loop : let t := cpu { at0 [0x28#8, 0xFE#8] with f := 0x80#8 }
    t.pc = 0xD000#16 ∧ t.cycles = 12 := by decide
/-- R653 -/
theorem test_jr_forward : let t := cpu (at0 [0x18#8, 0x05#8])
    t.pc = 0xD007#16 ∧ t.cycles = 12 := by decide
/-- V-C4 -/
theorem test_call : let t := cpu { at0 [0xCD#8, 0x00#8, 0xD1#8] with sp := 0xFFFE#16 }
    t.sp = 0xFFFC#16 ∧ t.pc = 0xD100#16 ∧ t.cycles = 24 ∧ t.read 0xFFFD#16 = 0xD0#8 ∧ t.read 0xFFFC#16 = 0x03#8 := by decide
/-- R661 -/
theorem test_call_nc_not_taken : let t := cpu { at0 [0xD4#8, 0x00#8, 0x40#8] with f := 0x10#8, sp := 0xFFFE#16 }
    t.pc = 0xD003#16 ∧ t.sp = 0xFFFE#16 ∧ t.cycles = 12 := by decide
/-- R668 -/
theorem test_rst_28 : let t := cpu { at0 [0xEF#8] with sp := 0xD800#16 }
    t.sp = 0xD7FE#16 ∧ t.pc = 0x0028#16 ∧ t.cycles = 16 ∧ t.read 0xD7FF#16 = 0xD0#8 ∧ t.read 0xD7FE#16 = 0x01#8 := by decide
/-- R665 -/
theorem test_ret : let t := cpu { ((at0 [0xC9#8]).write 0xFFFC#16 0x53#8).write 0xFFFD#16 0x01#8 with sp := 0xFFFC#16 }
    t.pc = 0x0153#16 ∧ t.sp = 0xFFFE#16 ∧ t.cycles = 16 := by decide
/-- V-C5 -/
theorem test_ret_nc_taken : let t := cpu { at0 [0xD0#8] with f := 0x00#8, sp := 0xFFFE#16 }
    t.pc = 0x0000#16 ∧ t.sp = 0x0000#16 ∧ t.cycles = 20 := by decide
/-- V-C6 -/
theorem test_ret_nc_not_taken : let t := cpu { at0 [0xD0#8] with f := 0x10#8 }
    t.pc = 0xD001#16 ∧ t.cycles = 8 := by decide
/-- R667 -/
theorem test_reti : let t := cpu { ((at0 [0xD9#8]).write 0xFFFC#16 0x53#8).write 0xFFFD#16 0x01#8 with sp := 0xFFFC#16, ime := false }
    t.pc = 0x0153#16 ∧ t.sp = 0xFFFE#16 ∧ t.ime = true := by decide
/-- V-X2 -/
theorem test_undefined_d3 : let t := cpu (at0 [0xD3#8])
    t.pc = 0xD001#16 ∧ t.cycles = 4 ∧ t.a = 0x01#8 ∧ t.f = 0xB0#8 := by decide
/-- V-X3 -/
theorem test_nop : let t := cpu (at0 [0x00#8])
    t.pc = 0xD001#16 ∧ t.cycles = 4 := by decide
/-- R703 -/
theorem test_halt : let t := cpu { (at0 [0x76#8]).write 0xFFFF#16 0x01#8 with ime := false }
    t.halted = true ∧ t.pc = 0xD001#16 ∧ t.cycles = 4 := by decide
/-- V-H1, V-H2: it does not halt -/
theorem test_halt_pending : let t := cpu { ((at0 [0x76#8]).write 0xFFFF#16 0x01#8).write 0xFF0F#16 0x01#8 with ime := false }
    t.halted = false ∧ t.pc = 0xD001#16 := by decide
/-- V-X1 -/
theorem test_stop : let t := cpu (((at0 [0x10#8, 0x00#8]).write 0xFFFF#16 0x01#8).write 0xFF0F#16 0x01#8)
    t.stopped = true ∧ t.pc = 0xD002#16 ∧ t.cycles = 4 := by decide
/-- R706 -/
theorem test_di : let t := cpu { at0 [0xF3#8] with ime := true, eiPending := true }
    t.ime = false ∧ t.eiPending = false ∧ t.cycles = 4 := by decide
/-- V-E1, first step -/
theorem test_ei : let t := cpu { ((at0 [0xFB#8]).write 0xFFFF#16 0x01#8).write 0xFF0F#16 0x01#8 with ime := false }
    t.ime = false ∧ t.eiPending = true ∧ t.pc = 0xD001#16 := by decide
/-- V-E1, second step -/
theorem test_ei_takes_effect : let t := cpu { ((at0 [0x3C#8]).write 0xFFFF#16 0x01#8).write 0xFF0F#16 0x01#8 with a := 0x00#8, eiPending := true }
    t.a = 0x01#8 ∧ t.ime = true ∧ t.eiPending = false := by decide
/-- V-H3, second step: the opcode byte is read twice -/
theorem test_halt_bug_fetch : let t := cpu { at0 [0x76#8, 0x06#8, 0x04#8] with pc := 0xD001#16, haltBug := true }
    t.b = 0x06#8 ∧ t.pc = 0xD002#16 ∧ t.cycles = 8 ∧ t.haltBug = false := by decide
/-- V-I1 -/
theorem test_dispatch_stat : let t := cpu { ((at0 [0x00#8]).write 0xFFFF#16 0x1F#8).write 0xFF0F#16 0x06#8 with ime := true, sp := 0xFFFE#16 }
    t.pc = 0x0048#16 ∧ t.sp = 0xFFFC#16 ∧ t.cycles = 20 ∧ t.ime = false ∧ t.read 0xFF0F#16 = 0x04#8 ∧ t.read 0xFFFD#16 = 0xD0#8 ∧ t.read 0xFFFC#16 = 0x00#8 := by decide
/-- V-I5 -/
theorem test_dispatch_joypad : let t := cpu { ((at0 [0x00#8]).write 0xFFFF#16 0x10#8).write 0xFF0F#16 0x10#8 with ime := true }
    t.pc = 0x0060#16 := by decide
/-- V-I4 -/
theorem test_dispatch_not_above_4 : let t := cpu { ((at0 [0x00#8]).write 0xFFFF#16 0xE0#8).write 0xFF0F#16 0xE0#8 with ime := true }
    t.pc = 0xD001#16 := by decide
/-- V-H5: the return address is the HALT -/
theorem test_dispatch_halt_bug : let t := cpu { ((at0 [0xFB#8, 0x76#8]).write 0xFFFF#16 0x01#8).write 0xFF0F#16 0x01#8 with pc := 0xD002#16, ime := true, haltBug := true }
    t.pc = 0x0040#16 ∧ t.haltBug = false ∧ t.read 0xFFFD#16 = 0xD0#8 ∧ t.read 0xFFFC#16 = 0x01#8 := by decide
/-- V-C8: 0xFF fetched at 0x0100 is RST 0x38 -/
theorem test_no_cartridge_step : let t := cpu { at0 [] with pc := 0x0100#16 }
    t.pc = 0x0038#16 ∧ t.sp = 0xFFFC#16 ∧ t.cycles = 16 ∧ t.read 0xFFFD#16 = 0x01#8 ∧ t.read 0xFFFC#16 = 0x01#8 := by decide

/-! ## The cartridge (95_test_vectors 2.9) -/

/-- A cartridge of a type code with so many banks and so much RAM, the listed image bytes and 0x00 elsewhere. -/
def cartOf (code : Byte) (banks ram : Nat) (img : Memory) : Cart :=
  { blankCart with
    typeCode := code, romBanks := banks, ramSize := ram, len := banks * 0x4000, img := img, ctrl := controllerOf code }

/-- The reset machine with a cartridge. -/
def withCart (c : Cart) : State := { State.reset with cart := some c }

/-- MBC1 with 128 banks, banks 1, 0x20 and 0x21 beginning with their own numbers. -/
def bigMbc1 : State := withCart (cartOf 0x01#8 128 0 [(0x4000, 0x01#8), (0x80000, 0x20#8), (0x84000, 0x21#8)])

/-- V-B2 -/
theorem test_mbc1_zero_bank : (bigMbc1.write 0x2000#16 0x20#8).read 0x4000#16 = 0x01#8 := by decide
/-- V-B3 -/
theorem test_mbc1_bank_21 : let s := (bigMbc1.write 0x4000#16 0x01#8).write 0x2000#16 0x00#8
    s.read 0x4000#16 = 0x21#8 ∧ s.read 0x0000#16 = 0x00#8 := by decide
/-- V-B4 -/
theorem test_mbc1_mode_1 : let s := ((bigMbc1.write 0x4000#16 0x01#8).write 0x2000#16 0x00#8).write 0x6000#16 0x01#8
    s.read 0x4000#16 = 0x21#8 ∧ s.read 0x0000#16 = 0x20#8 := by decide
/-- V-B5 -/
theorem test_mbc1_reduction : ((withCart (cartOf 0x01#8 4 0 [(0xC000, 0x33#8)])).write 0x2000#16 0x07#8).read 0x4000#16 = 0x33#8 := by
  decide
/-- V-B6, V-B7 -/
theorem test_mbc1_ram_gate : let s := withCart (cartOf 0x03#8 4 0x2000 [])
    (s.write 0xA000#16 0x5A#8).read 0xA000#16 = 0xFF#8 ∧
    ((s.write 0x0000#16 0x1A#8).write 0xA000#16 0x5A#8).read 0xA000#16 = 0x5A#8 := by decide
/-- V-B8 -/
theorem test_mbc5_bank_0 : ((withCart (cartOf 0x19#8 512 0 [(0, 0x77#8)])).write 0x2000#16 0x00#8).read 0x4000#16 = 0x77#8 := by
  decide
/-- V-B9 -/
theorem test_mbc5_nine_bits : (((withCart (cartOf 0x19#8 512 0 [(0x7FC000, 0x99#8)])).write 0x2000#16 0xFF#8).write
    0x3000#16 0x01#8).read 0x4000#16 = 0x99#8 := by decide
/-- V-B10, V-B11 -/
theorem test_mbc2 : let s := ((withCart (cartOf 0x05#8 16 512 [(0x14000, 0x55#8)])).write 0x0000#16 0x0A#8).write 0x0100#16 0x05#8
    s.read 0x4000#16 = 0x55#8 ∧ (s.write 0xA000#16 0xAB#8).read 0xA200#16 = 0xFB#8 := by decide
/-- V-B12 -/
theorem test_mbc3_clock : let s := ((withCart (cartOf 0x0F#8 4 0 [])).write 0x0000#16 0x0A#8).write 0x4000#16 0x08#8
    s.read 0xA000#16 = Config.rtcRead 0 0xA000#16 ∧ s.write 0xA000#16 0x12#8 = s := ⟨rfl, rfl⟩
/-- V-B13 -/
theorem test_mbc3_zero_bank :
    ((withCart (cartOf 0x0F#8 4 0 [(0x4000, 0x01#8)])).write 0x2000#16 0x00#8).read 0x4000#16 = 0x01#8 := by decide

/-- An image of a header's length: a title field, and the type, ROM and RAM codes. -/
def image (title : List Byte) (code rom ram : Byte) : List Byte :=
  List.replicate 0x134 0x00#8 ++ title ++ List.replicate (0x13 - title.length) 0x00#8 ++ [code, rom, ram] ++
    List.replicate 6 0x00#8

/-- S9 -/
theorem test_load_title :
    (match Cart.ofImage (image [0x54#8, 0x45#8, 0x53#8, 0x54#8, 0x52#8, 0x4F#8, 0x4D#8] 0x00#8 0x00#8 0x00#8) with
      | .ok c => c.title == [0x54#8, 0x45#8, 0x53#8, 0x54#8, 0x52#8, 0x4F#8, 0x4D#8] && c.ramSize == 0 && c.supported &&
          c.romBanks == 2
      | .error _ => false) = true := by decide +kernel
/-- V-B14 -/
theorem test_load_unsupported :
    (match Cart.ofImage (image [] 0x20#8 0x00#8 0x03#8) with
      | .ok c => !c.supported && c.ctrl == .romOnly && c.ramSize == 0
      | .error _ => false) = true := by decide +kernel
/-- S10 -/
theorem test_load_short : ∀ s : State, s.loadRom (List.replicate 0x14F 0x00#8) = .error (.imageTooShort 0x14F) :=
  fun s => by unfold State.loadRom Cart.ofImage; rw [List.length_replicate, if_pos (by decide)]

/-! ## The bus and the host (S4, S8, S11, V-M1, V-M3, V-F5) -/

theorem test_echo : (State.reset.write 0xC123#16 0x5A#8).read 0xE123#16 = 0x5A#8 ∧
    (State.reset.write 0xFDFF#16 0x77#8).read 0xDDFF#16 = 0x77#8 := by decide
theorem test_joypad_cell : let s := State.reset.write 0xFF00#16 0x30#8
    s.io 0 = 0x30#8 ∧ s.read 0xFF00#16 = 0xFF#8 := by decide
theorem test_ie_alias : (State.reset.write 0xFF7F#16 0x1F#8).read 0xFFFF#16 = 0x1F#8 := by decide
theorem test_no_cartridge : State.reset.read 0x0000#16 = 0xFF#8 ∧ State.reset.read 0x7FFF#16 = 0xFF#8 ∧
    State.reset.read 0xA000#16 = 0xFF#8 := by decide
theorem test_plain_io_cell : (State.reset.write 0xFF04#16 0x99#8).read 0xFF04#16 = 0x99#8 := by decide
theorem test_buttons : (State.reset.setInput 3 true).read 0xFF00#16 = 0xF7#8 ∧
    ((State.reset.setInput 3 true).setInput 3 false).buttons = 0xFF#8 ∧ State.reset.setInput 8 true = State.reset := by decide

/-! ## The PPU (2.10, 2.11) -/

/-- The reset machine with some bytes of memory. -/
def memory (cells : List (Word × Byte)) : State := cells.foldl (fun s c => s.write c.1 c.2) State.reset

/-- V-P1 -/
theorem test_stat_hblank : let s := memory [(0xFF41#16, 0x08#8)]
    (State.advance 251 s).io 0x0F = 0x00#8 ∧ (State.advance 252 s).io 0x0F = 0x02#8 ∧
    (State.advance 252 s).io 0x41 = 0x08#8 := by decide +kernel
/-- V-P2 -/
theorem test_stat_oam : let s := memory [(0xFF41#16, 0x20#8)]
    (State.advance 455 s).io 0x0F = 0x00#8 ∧ (State.advance 456 s).io 0x0F = 0x02#8 ∧
    (State.advance 456 s).io 0x41 = 0x22#8 ∧ (State.advance 456 s).io 0x44 = 0x01#8 := by decide +kernel
/-- V-P3, the last tick of line 1 -/
theorem test_lyc : let s := { memory [(0xFF41#16, 0x40#8), (0xFF45#16, 0x02#8)] with mode := .hblank, dot := 203, line := 1 }
    s.tick.io 0x0F = 0x02#8 ∧ s.tick.io 0x41 = 0x46#8 := by decide
/-- V-P5, the last tick of line 143 -/
theorem test_vblank : let s := { memory [(0xFF41#16, 0x10#8), (0xFF45#16, 0x01#8)] with mode := .hblank, dot := 203, line := 143 }
    s.tick.io 0x0F = 0x03#8 ∧ s.tick.mode = .vblank := by decide
/-- V-P6 -/
theorem test_drawing : let t := State.advance 80 State.reset
    t.mode = .drawing ∧ t.io 0x41 = 0x03#8 := by decide +kernel

/-- The shade of a pixel. -/
def shade (s : State) (x y : Nat) : BitVec 2 := s.pixelShade (s.spritesOn y) y x

/-- Tile 1 with index 3 on its first row and its second. -/
def solid : List (Word × Byte) := [(0x8010#16, 0xFF#8), (0x8011#16, 0xFF#8), (0x8012#16, 0xFF#8), (0x8013#16, 0xFF#8)]

/-- V-G1 -/
theorem test_scroll : let s := memory ([(0xFF40#16, 0x91#8), (0xFF47#16, 0xE4#8), (0x9800#16, 0x01#8), (0xFF43#16, 0x04#8)] ++ solid)
    shade s 0 0 = 3 ∧ shade s 3 0 = 3 ∧ shade s 4 0 = 0 := by decide +kernel
/-- V-G2 -/
theorem test_signed_tiles : let s := memory [(0xFF40#16, 0x81#8), (0xFF47#16, 0xE4#8), (0x9800#16, 0x80#8), (0x8801#16, 0xFF#8),
      (0x9000#16, 0xFF#8)]
    shade s 0 0 = 2 ∧ shade s 8 0 = 1 := by decide +kernel
/-- V-G3 -/
theorem test_window : let s := memory ([(0xFF40#16, 0xF1#8), (0xFF47#16, 0xE4#8), (0x9C00#16, 0x01#8), (0xFF4A#16, 0x0A#8),
      (0xFF4B#16, 0x57#8)] ++ solid)
    shade s 79 10 = 0 ∧ shade s 80 10 = 3 ∧ shade s 80 9 = 0 ∧ (s.render 10).winLine = 1 ∧ (s.render 9).winLine = 0 := by
  decide +kernel
/-- V-G6 -/
theorem test_first_sprite_wins : let s := memory ([(0xFF40#16, 0x93#8), (0xFF47#16, 0xE4#8), (0xFF48#16, 0xE4#8), (0x8020#16, 0xFF#8),
      (0xFE00#16, 0x10#8), (0xFE01#16, 0x10#8), (0xFE02#16, 0x02#8), (0xFE04#16, 0x10#8), (0xFE05#16, 0x0C#8),
      (0xFE06#16, 0x01#8)] ++ solid)
    shade s 4 0 = 3 ∧ shade s 8 0 = 1 := by decide +kernel
/-- V-G7 -/
theorem test_sprite_behind : let s := memory ([(0xFF40#16, 0x93#8), (0xFF47#16, 0xE4#8), (0xFF48#16, 0x54#8), (0x9800#16, 0x01#8),
      (0xFE00#16, 0x10#8), (0xFE01#16, 0x0C#8), (0xFE02#16, 0x01#8), (0xFE03#16, 0x80#8)] ++ solid)
    shade s 4 0 = 3 ∧ shade s 8 0 = 1 ∧ shade s 12 0 = 0 ∧ shade (s.write 0xFE03#16 0x00#8) 4 1 = 1 := by decide +kernel
/-- V-G8, V-G9 -/
theorem test_flips : let s := memory [(0xFF40#16, 0x93#8), (0xFF48#16, 0xE4#8), (0x8030#16, 0x80#8), (0xFE00#16, 0x10#8),
      (0xFE01#16, 0x08#8), (0xFE02#16, 0x03#8), (0xFE03#16, 0x20#8)]
    shade s 0 0 = 0 ∧ shade s 7 0 = 1 ∧ shade ((s.write 0xFE00#16 0x09#8).write 0xFE03#16 0x40#8) 0 0 = 1 := by decide +kernel
/-- V-G10 -/
theorem test_tall_sprite : let s := memory [(0xFF40#16, 0x97#8), (0xFF48#16, 0xE4#8), (0x8020#16, 0xFF#8), (0x8031#16, 0xFF#8),
      (0xFE00#16, 0x10#8), (0xFE01#16, 0x08#8), (0xFE02#16, 0x03#8)]
    shade s 0 0 = 1 ∧ shade s 0 8 = 2 := by decide +kernel

/-! ## Witnesses: concrete states and operands that meet the hypotheses of each statement -/

theorem witness_EncodeDecode : decode [0x10#8, 0x55#8, 0x00#8] = .ok (.stop 0x55#8, [0x00#8]) := rfl

theorem witness_FirstByteGivesLength : lengthByFirstByte 0xC3#8 ≤ [0x00#8, 0x00#8].length + 1 ∧
    lengthByFirstByte 0x00#8 ≤ ([] : List Byte).length + 1 ∧ [0x00#8].length + 1 < lengthByFirstByte 0xC3#8 := by decide

/-- A machine with HL = 0xC800, BC = 0xFF80, DE = 0x8000 and all flags clear. -/
def wReg : State := { State.reset with h := 0xC8#8, l := 0x00#8, b := 0xFF#8, c := 0x80#8, d := 0x80#8, e := 0x00#8, f := 0x00#8 }

theorem ld_a_mnn_not_store : ¬ IsStore (.ld_a_mnn 0xC000#16) := by
  rintro (⟨r, h⟩ | ⟨n, h⟩ | h | h | ⟨n, h⟩ | ⟨n, h⟩ | h | h | h | ⟨n, h⟩ | ⟨q, h⟩ | h | h | ⟨o, h⟩ | ⟨b, h | h⟩ | ⟨n, h⟩ |
    ⟨n, cc, h⟩ | ⟨y, h⟩)
  all_goals first | cases h | (cases r <;> cases h) | (cases q <;> cases h) | (cases o <;> cases h) |
    (cases cc <;> cases h) | (revert b; decide) | (revert y; decide)

/-- Storing forms answer a next state, and there is a byte the store does not touch; an instruction that does not store, and a
CALL cc not taken, answer a next state. -/
theorem witness_StoresTouchOnlyTheirBytes :
    (∃ t, exec (ldMemReg .b) wReg = .next t) ∧ (∃ t, exec (.ld_mnn_sp 0xC000#16) wReg = .next t) ∧
    (∃ t, exec (pushPair .af) wReg = .next t) ∧ (∃ t, exec (callCond 0x1234#16 .nc) wReg = .next t) ∧
    Cond.Holds wReg.f .nc ∧ ¬ Touches wReg 0xC800#16 0xC801#16 ∧ ¬ Touches wReg 0xFFFF#16 0xFF7E#16 ∧
    ¬ Touches wReg 0x2000#16 0x8000#16 ∧ (¬ IsStore (.ld_a_mnn 0xC000#16) ∧ ∃ t, exec (.ld_a_mnn 0xC000#16) wReg = .next t) ∧
    (¬ Cond.Holds wReg.f .c ∧ ∃ t, exec (callCond 0x1234#16 .c) wReg = .next t) := by
  refine ⟨⟨_, rfl⟩, ⟨_, rfl⟩, ⟨_, rfl⟩, ⟨_, rfl⟩, rfl, ?_, ?_, ?_, ⟨ld_a_mnn_not_store, _, rfl⟩,
    by simp [Cond.Holds, wReg], _, rfl⟩ <;> rintro (h | h | h | ⟨h, -⟩) <;> revert h <;> decide

theorem witness_DecimalAdditionWithDaa : let s := { State.reset with a := 0x99#8, b := 0x99#8 }
    s.a.toNat = 16 * (99 / 10) + 99 % 10 ∧ (s.reg .b).toNat = 16 * (99 / 10) + 99 % 10 ∧
    ∃ t u, exec (aluInstr .add (.reg .b)) s = .next t ∧ exec .daa t = .next u :=
  ⟨by decide, by decide, _, _, rfl, rfl⟩

/-- Each condition holds in one of these and fails in the other (Jumps, CallsAndRestarts, Returns). -/
theorem witness_conditions : Cond.Holds 0xB0#8 .z ∧ Cond.Holds 0xB0#8 .c ∧ Cond.Holds 0x00#8 .nz ∧ Cond.Holds 0x00#8 .nc ∧
    ¬ Cond.Holds 0x00#8 .z ∧ ¬ Cond.Holds 0x00#8 .c ∧ ¬ Cond.Holds 0xB0#8 .nz ∧ ¬ Cond.Holds 0xB0#8 .nc :=
  ⟨rfl, rfl, rfl, rfl, (by decide : ¬ (0x00#8).getLsbD 7 = true), (by decide : ¬ (0x00#8).getLsbD 4 = true),
    (by decide : ¬ (0xB0#8).getLsbD 7 = false), (by decide : ¬ (0xB0#8).getLsbD 4 = false)⟩

/-- The reset machine with IE and IF. -/
def wInt (ie irq : Byte) : State := (State.reset.write 0xFFFF#16 ie).write 0xFF0F#16 irq

theorem witness_NopUndefinedHaltStop : (wInt 0x10#8 0x10#8).ime = false ∧ (wInt 0x10#8 0x10#8).pending ≠ 0 ∧
    ¬ ((wInt 0x10#8 0xE0#8).ime = false ∧ (wInt 0x10#8 0xE0#8).pending ≠ 0) := by decide

theorem witness_DisableAndEnableInterrupts :
    (∃ s t : State, exec s.fetchInstr.1 s.fetchInstr.2 = .next t ∧ s.eiPending = true ∧ t.eiPending = true) ∧
    (∃ s t : State, exec s.fetchInstr.1 s.fetchInstr.2 = .next t ∧ s.eiPending = false) ∧
    (∃ s t : State, exec s.fetchInstr.1 s.fetchInstr.2 = .next t ∧ s.eiPending = true ∧ t.eiPending = false) :=
  ⟨⟨{ at0 [0x3C#8] with eiPending := true }, _, rfl, rfl, rfl⟩, ⟨at0 [0xFB#8], _, rfl, rfl⟩,
    ⟨{ at0 [0xF3#8] with eiPending := true }, _, rfl, rfl, rfl⟩⟩

theorem witness_StackRoundTrips : State.reset.memOk ∧ State.reset.f &&& 0x0F#8 = 0 ∧
    IsRam (State.reset.sp - 1) ∧ IsRam (State.reset.sp - 2) ∧
    (∃ m t, exec (pushPair .af) State.reset = .next m ∧ exec (popPair .af) m = .next t) ∧
    (IsRam (0x0000#16 - 1) ∧ IsRam (0x0000#16 - 2)) ∧ (IsRam (0x8002#16 - 1) ∧ IsRam (0x8002#16 - 2)) := by
  refine ⟨by unfold State.memOk; decide, by decide, ?_, ?_, ⟨_, _, rfl, rfl⟩, ⟨?_, ?_⟩, ⟨?_, ?_⟩⟩ <;> unfold IsRam <;> decide

theorem witness_StepRunsDecodedInstruction :
    (let s := at0 [0xC3#8, 0x50#8, 0x01#8];
      s.stopped = false ∧ (s.ime = true → s.pending = 0) ∧ (s.halted = true → s.pending ≠ 0) ∧
      decode (bytesToFetch s) = .ok (.jp_nn 0x0150#16, [])) ∧
    (let s := { ((at0 [0x06#8]).write 0xFFFF#16 0x01#8).write 0xFF0F#16 0x01#8 with haltBug := true, halted := true };
      s.stopped = false ∧ (s.ime = true → s.pending = 0) ∧ (s.halted = true → s.pending ≠ 0) ∧
      decode (bytesToFetch s) = .ok (.ld_b_n 0x06#8, [0x00#8])) :=
  ⟨⟨rfl, by decide, by decide, rfl⟩, ⟨rfl, by decide, by decide, rfl⟩⟩

theorem witness_IdleSlots : { State.reset with stopped := true }.stopped = true ∧
    ({ State.reset with halted := true }.stopped = false ∧ { State.reset with halted := true }.halted = true ∧
      { State.reset with halted := true }.pending = 0 ∧ State.reset.io 0x7F = 0) ∧
    { wInt 0x01#8 0x01#8 with halted := true }.pending ≠ 0 ∧
    { wInt 0x01#8 0x01#8 with halted := true, ime := true }.pending ≠ 0 := by decide

theorem witness_InterruptDispatch :
    ((wInt 0x1F#8 0x1F#8).pending.getLsbD 0 = true ∧ ∀ j, j < 0 → (wInt 0x1F#8 0x1F#8).pending.getLsbD j = false) ∧
    ((wInt 0x1F#8 0xF0#8).pending.getLsbD 4 = true ∧ ∀ j, j < 4 → (wInt 0x1F#8 0xF0#8).pending.getLsbD j = false) ∧
    (wInt 0x1F#8 0xE0#8).pending = 0 ∧ State.reset.stopped = false ∧ State.reset.halted = false ∧ State.reset.ime = false := by
  decide

theorem witness_StepCounts : ∃ t, State.reset.cpuStep = .next t := ⟨_, rfl⟩

theorem witness_WhatWritesIme :
    (∃ t, exec .di { State.reset with ime := true } = .next t ∧ t.ime ≠ true) ∧
    (∃ t, { at0 [0x00#8] with eiPending := true }.cpuStep = .next t ∧ t.ime = true) ∧
    (∃ t, (at0 [0xD9#8]).cpuStep = .next t ∧ t.ime = true) ∧
    (∃ t, { at0 [0xF3#8] with ime := true }.cpuStep = .next t ∧ t.ime = false) ∧
    (∃ t, { wInt 0x01#8 0x01#8 with ime := true }.cpuStep = .next t ∧ t.ime = false) :=
  ⟨⟨_, rfl, by decide⟩, ⟨_, rfl, rfl⟩, ⟨_, rfl, rfl⟩, ⟨_, rfl, rfl⟩, ⟨_, rfl, rfl⟩⟩

theorem witness_FlagLowNibbleIsZero : State.reset.f &&& 0x0F#8 = 0 ∧ (∃ t, exec (.add_a_n 0xFF#8) State.reset = .next t) ∧
    ∃ t, step State.reset = .next t := ⟨by decide, ⟨_, rfl⟩, ⟨_, rfl⟩⟩

/-- A legal state in the middle of a run: MBC1 with RAM, the last line before vertical blank rendered. -/
def wLegal : State :=
  { withCart { cartOf 0x03#8 4 0x2000 [(0x100, 0x3C#8)] with ram := [(0x1FFF, 0x5A#8)] } with
    mode := .hblank, dot := 203, line := 143, winLine := 144, frame := [(143, List.replicate 160 3)], frameAcc := 70223 }

theorem wLegal_inv : wLegal.Inv where
  cpu := by unfold State.cpuOk; decide
  mem := by unfold State.memOk; decide
  ppu := by unfold State.ppuOk; decide
  cart := by
    intro c hc
    cases hc
    exact ⟨by decide, ⟨1, rfl⟩, by decide, by decide, by decide, by decide, (by decide : (1#5 : BitVec 5) ≠ 0),
      fun r h => by cases h⟩
  frame := by unfold State.frameOk; decide +kernel
  driver := by unfold State.driverOk; decide

theorem witness_StepKeepsInvariant : wLegal.Inv ∧ ∃ t, step wLegal = .next t := ⟨wLegal_inv, ⟨_, rfl⟩⟩

theorem witness_HostOperationsKeepInvariant : wLegal.Inv ∧
    (∃ t, wLegal.loadRom (image [] 0x05#8 0x00#8 0x00#8) = .ok t) ∧ (∃ u, wLegal.setState wLegal.getState = .ok u) ∧ (∃ t, wLegal.runFrame = .next t) :=
  ⟨wLegal_inv, ⟨_, by unfold State.loadRom Cart.ofImage; rw [if_neg (by decide +kernel)]⟩, ⟨_, rfl⟩, ⟨_, rfl⟩⟩

/-- The first and the last address of each range of AddressMap and SpecialRanges. -/
theorem witness_AddressMap :
    (0x0000#16).toNat < 0x8000 ∧ (0x7FFF#16).toNat < 0x8000 ∧
    (0x8000 ≤ (0x8000#16).toNat ∧ (0x9FFF#16).toNat < 0xA000) ∧ (0xA000 ≤ (0xA000#16).toNat ∧ (0xBFFF#16).toNat < 0xC000) ∧
    (0xC000 ≤ (0xC000#16).toNat ∧ (0xDFFF#16).toNat < 0xE000) ∧ (0xE000 ≤ (0xE000#16).toNat ∧ (0xFDFF#16).toNat < 0xFE00) ∧
    (0xFE00 ≤ (0xFE00#16).toNat ∧ (0xFE9F#16).toNat < 0xFEA0) ∧ (0xFEA0 ≤ (0xFEA0#16).toNat ∧ (0xFEFF#16).toNat < 0xFF00) ∧
    (0xFF00#16).toNat = 0xFF00 ∧ (0xFF01 ≤ (0xFF01#16).toNat ∧ (0xFFFE#16).toNat < 0xFFFF) ∧ (0xFFFF#16).toNat = 0xFFFF := by
  decide

theorem witness_SpecialRanges : State.reset.cart = none ∧ (0xE000 ≤ (0xFDFF#16).toNat ∧ (0xFDFF#16).toNat < 0xFE00) ∧
    (0xDE00 ≤ (0xDE00#16).toNat ∧ (0xDFFF#16).toNat < 0xE000) ∧ (0 < 1 ∧ 0x7F < 0x80) := by decide

theorem witness_ReadsSeeTheLatestWrite : State.reset.memOk ∧ IsRam 0xFDFF#16 ∧ IsRam 0xDDFF#16 ∧
    cellOf 0xDDFF#16 = cellOf 0xFDFF#16 ∧ ¬ (IsRam 0xDE00#16 ∧ cellOf 0xDE00#16 = cellOf 0xFDFF#16) ∧
    ¬ (IsRam 0xFF00#16 ∧ cellOf 0xFF00#16 = cellOf 0xFDFF#16) := by
  refine ⟨by unfold State.memOk; decide, ?_, ?_, by decide, ?_, ?_⟩ <;> unfold IsRam <;> decide

theorem witness_RomNeverChanges : (0x7FFF#16).toNat < 0x8000 ∧ (withCart blankCart).cart = some blankCart ∧
    blankCart.ctrl = .romOnly ∧ ∃ t, step (withCart blankCart) = .next t := ⟨by decide, rfl, rfl, ⟨_, rfl⟩⟩

/-- A ROM-only cartridge without and with RAM; MBC2 with its gate shut and open; addresses of both parities of bit 8. -/
theorem witness_RomOnlyAndMbc2 : blankCart.ctrl = .romOnly ∧ blankCart.ramSize = 0 ∧ (cartOf 0x08#8 2 0x2000 []).ctrl = .romOnly ∧
    (cartOf 0x08#8 2 0x2000 []).ramSize ≠ 0 ∧ (cartOf 0x05#8 2 512 []).ctrl = .mbc2 ⟨false, 1⟩ ∧
    ((0x3EFF#16).toNat < 0x4000 ∧ (0x3EFF#16).toNat / 256 % 2 = 0) ∧ ((0x3FFF#16).toNat < 0x4000 ∧ (0x3FFF#16).toNat / 256 % 2 = 1) ∧
    ((cartOf 0x05#8 2 512 []).writeRom 0x0000 0x0A#8).ctrl = .mbc2 ⟨true, 1⟩ := by decide

/-- MBC1 with its gate shut and open, with and without RAM, in both modes. -/
theorem witness_Mbc1Controller : (cartOf 0x01#8 4 0 []).ctrl = .mbc1 ⟨false, 1, 0, false⟩ ∧ (cartOf 0x01#8 4 0 []).ramSize = 0 ∧
    ((cartOf 0x03#8 4 0x8000 []).writeRom 0x1FFF 0x0A#8).ctrl = .mbc1 ⟨true, 1, 0, false⟩ ∧
    ((cartOf 0x03#8 4 0x8000 []).writeRom 0x7FFF 0x01#8).ctrl = .mbc1 ⟨false, 1, 0, true⟩ ∧
    (cartOf 0x03#8 4 0x8000 []).ramSize ≠ 0 := by decide

/-- MBC3 with its gate open and each kind of selection at the ends of its range. -/
theorem witness_Mbc3Controller :
    ((cartOf 0x13#8 4 0x8000 []).writeRom 0x1FFF 0x0A#8).ctrl = .mbc3 ⟨true, 1, 0⟩ ∧ (cartOf 0x13#8 4 0x8000 []).ramSize ≠ 0 ∧
    (cartOf 0x0F#8 4 0 []).ramSize = 0 ∧ (0x03#8).toNat ≤ 3 ∧ (3 < (0x04#8).toNat ∧ (0x07#8).toNat < 8) ∧
    (8 ≤ (0x08#8).toNat ∧ (0x0C#8).toNat ≤ 12) ∧ 12 < (0x0D#8).toNat ∧
    ((cartOf 0x13#8 4 0x8000 []).writeRom 0x5FFF 0x0C#8).ctrl = .mbc3 ⟨false, 1, 0x0C#8⟩ := by decide

/-- MBC5, plain and rumble, with its gate shut and open. -/
theorem witness_Mbc5Controller : (cartOf 0x1B#8 4 0x8000 []).ctrl = .mbc5 ⟨false, 1, 0⟩ ∧
    ((cartOf 0x1B#8 4 0x8000 []).writeRom 0x1FFF 0x0A#8).ctrl = .mbc5 ⟨true, 1, 0⟩ ∧ (cartOf 0x1B#8 4 0x8000 []).ramSize ≠ 0 ∧
    (cartOf 0x19#8 4 0 []).ramSize = 0 ∧ ((cartOf 0x1E#8 4 0 []).writeRom 0x5FFF 0x0F#8).ctrl = .mbc5 ⟨false, 1, 7⟩ := by decide

theorem witness_BanksWithinTheCartridge :
    (∃ c, wLegal.cart = some c ∧ c.Ok ∧ (c.writeRom 0 0x0A#8).ramTarget 0xBFFF = .cell 0x1FFF) ∧
    ((cartOf 0x05#8 2 512 []).writeRom 0 0x0A#8).ramTarget 0xBFFF = .nibble 0x1FF :=
  ⟨⟨_, rfl, wLegal_inv.cart _ rfl, by decide⟩, by decide⟩

/-- Images just below and at the header's length; ROM codes 8 and 9; a loaded cartridge. -/
theorem witness_LoadingAnImage : (List.replicate 0x14F 0x00#8).length < 0x150 ∧ 0x150 ≤ (image [] 0x00#8 0x08#8 0x00#8).length ∧
    ((image [] 0x00#8 0x08#8 0x00#8).getD 0x148 0).toNat ≤ 8 ∧ ((image [] 0x00#8 0x09#8 0x00#8).getD 0x148 0).toNat > 8 ∧
    (image [] 0x00#8 0x09#8 0x00#8).length ≤ 2 ^ (0 + 1) * 0x4000 ∧ wLegal.cart.isSome = true := by decide +kernel

theorem witness_PpuTimeline : State.reset.mode = .oamSearch ∧ State.reset.dot = 0 ∧ State.reset.line = 0 ∧ 70223 < 70224 ∧
    { State.reset with mode := .vblank, dot := 455, line := 153 }.ppuOk ∧ wLegal.ppuOk :=
  ⟨rfl, rfl, rfl, by decide, by unfold State.ppuOk; decide, wLegal_inv.ppu⟩

theorem witness_PpuRunsByItself : State.reset.mode = wReg.mode ∧ State.reset.dot = wReg.dot ∧ State.reset.line = wReg.line ∧
    ∃ t, exec (ldMemReg .a) wReg = .next t := ⟨rfl, rfl, rfl, ⟨_, rfl⟩⟩

/-- A state below each threshold, at each, and on each side of the line numbers that matter. -/
theorem witness_PpuMirrorAndRequests : State.reset.memOk ∧ State.reset.dot + 1 ≠ modeCycles State.reset.mode ∧
    (wLegal.mode = .hblank ∧ wLegal.dot = 203 ∧ 144 ≤ wLegal.line + 1) ∧ { wLegal with line := 142 }.line + 1 < 144 ∧
    { State.reset with mode := .vblank, dot := 455, line := 152 }.line ≠ 153 ∧
    ({ State.reset with dot := 79 }.mode = .oamSearch ∧ { State.reset with mode := .drawing, dot := 171 }.dot = 171 ∧
      { State.reset with mode := .vblank, dot := 455, line := 153 }.line = 153) := by
  unfold State.memOk; decide

/-- LCDC bit 0 clear and set; the window at the last pixel of the last line, at its own first pixel, and not there. -/
theorem witness_BackgroundAndWindow : (143 < 144 ∧ 159 < 160 ∧ State.reset.winLine < 256) ∧ bitOf (State.reset.read 0xFF40#16) 0 = 0 ∧
    (let s := memory [(0xFF40#16, 0x21#8), (0xFF4A#16, 0x8F#8), (0xFF4B#16, 0xA6#8)];
      bitOf (s.read 0xFF40#16) 0 = 1 ∧ windowAt s 143 159 ∧ ¬ windowAt s 143 158 ∧ ¬ windowAt s 142 159) ∧
    (∀ x', x' < 160 → ¬ (bitOf (State.reset.read 0xFF40#16) 0 = 1 ∧ windowAt State.reset 0 x')) := by
  refine ⟨by decide, by decide, ?_, fun x' _ h => absurd h.1 (by decide)⟩
  unfold windowAt
  decide

/-- The last entry of OAM; sprites off and on. -/
theorem witness_TenSpritesPerLine : 39 < 40 ∧ bitOf (State.reset.read 0xFF40#16) 1 = 0 ∧
    bitOf ((memory [(0xFF40#16, 0x02#8)]).read 0xFF40#16) 1 = 1 := by decide

/-- The bytes of entry 39 at 0xFE9C to 0xFE9F; a sprite with a colour at pixel (0, 0), one without, and columns and rows at the ends
of a sprite's own. -/
theorem witness_SpritePriority :
    (39 < 40 ∧ spriteAt (memory [(0xFE9C#16, 0x01#8), (0xFE9D#16, 0x02#8), (0xFE9E#16, 0x03#8), (0xFE9F#16, 0x04#8)]) 39 =
      ⟨0x01#8, 0x02#8, 0x03#8, 0x04#8⟩) ∧
    (let s := memory [(0xFF40#16, 0x93#8), (0x8010#16, 0x80#8)];
      s.spriteIndex ⟨0x10#8, 0x08#8, 0x01#8, 0x00#8⟩ 0 0 ≠ 0 ∧ s.spriteIndex ⟨0x10#8, 0x08#8, 0x02#8, 0x00#8⟩ 0 0 = 0 ∧
      (0x10#8).toNat ≤ 7 + 16 ∧ 7 + 16 < (0x10#8).toNat + spriteRows s) ∧
    ((0x08#8).toNat ≤ 7 + 8 ∧ 7 + 8 < (0x08#8).toNat + 8) ∧ ¬ ((0x08#8).toNat ≤ 8 + 8 ∧ 8 + 8 < (0x08#8).toNat + 8) := by
  decide

theorem witness_RenderWritesItsRow : State.reset.frameOk ∧ wLegal.frameOk ∧ 159 < 160 ∧ 143 < 144 ∧ 143 < 144 ∧ 143 ≤ 143 ∧
    (let s := memory [(0xFF40#16, 0x21#8)];
      ∃ x', x' < 160 ∧ bitOf (s.read 0xFF40#16) 0 = 1 ∧ windowAt s 143 x') ∧
    (let s := { State.reset with mode := .drawing, dot := 171 }; s.frameOk ∧ s.mode = .drawing ∧ s.dot = 171) ∧
    ¬ (State.reset.mode = .drawing ∧ State.reset.dot = 171) ∧ (∃ t, State.reset.cpuStep = .next t) ∧
    (∃ t, State.reset.loadRom (image [] 0x00#8 0x00#8 0x00#8) = .ok t) ∧ 3 < 4 := by
  refine ⟨by unfold State.frameOk; decide, wLegal_inv.frame, by decide, by decide, by decide, by decide,
    ⟨0, by decide, by decide, by unfold windowAt; decide⟩, ⟨by unfold State.frameOk; decide, rfl, rfl⟩, by decide,
    ⟨_, rfl⟩, ?_, by decide⟩
  unfold State.loadRom Cart.ofImage
  rw [if_neg (by decide +kernel)]
  exact ⟨_, rfl⟩

theorem witness_RunFrameRunsOneFrame : State.reset.frameAcc < 70224 ∧ wLegal.frameAcc < 70224 ∧ ∃ m, State.reset.cpuStep = .next m :=
  ⟨by decide, by decide, ⟨_, rfl⟩⟩

theorem witness_ButtonInput : 7 < 8 ∧ 7 ≤ 7 ∧ State.reset.buttons.getLsbD 7 = true := by decide

theorem witness_ResetProcedure : State.reset.cart = none ∧ wLegal.cart.isSome = true := by decide

theorem witness_SnapshotRoundTrip : sameCart wLegal { wLegal with a := 0x77#8 } = true ∧ sameCart wLegal State.reset = false ∧
    ∃ t, step wLegal = .next t := ⟨by decide, by decide, ⟨_, rfl⟩⟩

end Sys2Proof.Tests
end

namespace Sys2Proof.Machine

/-! ## What the CPU can do to the state

Every instruction, and every CPU step, is made of a few operations. `CpuEffect` lists them once; that an invariant is
kept is then an induction with one case per operation. -/

/-- `t` is made from `s` by operations of the CPU; `w` says when IME may be among what they write. -/
inductive CpuEffect (w : Prop) (s : State) : State → Prop
  | refl : CpuEffect w s s
  | setReg {t : State} (r : Reg8) (v : Byte) (h : CpuEffect w s t) : CpuEffect w s (t.setReg r v)
  | setF {t : State} (v : Byte) (h : CpuEffect w s t) : CpuEffect w s (t.setF v)
  | setReg16 {t : State} (r : Reg16) (v : Word) (h : CpuEffect w s t) : CpuEffect w s (t.setReg16 r v)
  | write {t : State} (addr : Word) (v : Byte) (h : CpuEffect w s t) : CpuEffect w s (t.write addr v)
  | setIo {t : State} (k : Nat) (v : Byte) (hk : k < 0x80) (h : CpuEffect w s t) : CpuEffect w s (t.setIo k v)
  | setControl {t : State} (sp pc : Word) (eiPending halted stopped : Bool) (cycles draws : Nat)
      (h : CpuEffect w s t) :
      CpuEffect w s { t with sp := sp, pc := pc, eiPending := eiPending, halted := halted, stopped := stopped,
                             cycles := cycles, draws := draws }
  | setHaltBug {t : State} (b : Bool) (hb : b = true → t.haltBug = true ∨ Config.haltBug = true)
      (h : CpuEffect w s t) : CpuEffect w s { t with haltBug := b }
  | setIme {t : State} (b : Bool) (hw : w) (h : CpuEffect w s t) : CpuEffect w s { t with ime := b }

namespace CpuEffect

variable {w w' : Prop} {s t u : State}

/-! ### The shared operations -/

theorem popped (h : CpuEffect w s t) : CpuEffect w s t.popped := .setControl _ _ _ _ _ _ _ h

theorem jump (target : Word) (h : CpuEffect w s t) : CpuEffect w s (t.jump target) := .setControl _ _ _ _ _ _ _ h

theorem push16 (v : Word) (h : CpuEffect w s t) : CpuEffect w s (t.push16 v) := by
  rw [State.push16_eq]
  exact .setControl _ _ _ _ _ _ _ (.write _ _ (.write _ _ h))

theorem halt (h : CpuEffect w s t) : CpuEffect w s t.halt := by
  unfold State.halt
  split
  · exact .setHaltBug _ (by simp) h
  · exact .setControl _ _ _ _ _ _ _ h

theorem disableInterrupts (hw : w) (h : CpuEffect w s t) : CpuEffect w s t.disableInterrupts :=
  .setControl _ _ _ _ _ _ _ (.setIme false hw h)

theorem returnFromInterrupt (hw : w) (h : CpuEffect w s t) : CpuEffect w s t.returnFromInterrupt :=
  .setControl _ _ _ _ _ _ _ (.setIme true hw h)

theorem applyEiDelay (pend : Bool) (hw : w) (h : CpuEffect w s t) : CpuEffect w s (t.applyEiDelay pend) := by
  unfold State.applyEiDelay
  split
  · exact .setControl _ _ _ _ _ _ _ (.setIme true hw h)
  · exact h

theorem fetchInstr (h : CpuEffect w s t) : CpuEffect w s t.fetchInstr.2 := by
  rw [State.fetchInstr_eq]
  exact .setControl _ _ _ _ _ _ _ (.setHaltBug false nofun h)

theorem dispatch (i : Fin 5) (hw : w) (h : CpuEffect w s t) : CpuEffect w s (t.dispatch i) :=
  .setControl _ _ _ _ _ _ _ (.push16 _ (.setControl _ _ _ _ _ _ _ (.setIme false hw (.setHaltBug false nofun
    (.setIo _ _ (by decide) h)))))

/-- Effects one after the other are an effect. -/
theorem trans (h₁ : CpuEffect w s t) (h₂ : CpuEffect w' t u) (hw : w' → w) : CpuEffect w s u := by
  induction h₂ with
  | refl => exact h₁
  | setReg r v _ ih => exact .setReg r v ih
  | setF v _ ih => exact .setF v ih
  | setReg16 r v _ ih => exact .setReg16 r v ih
  | write addr v _ ih => exact .write addr v ih
  | setIo k v hk _ ih => exact .setIo k v hk ih
  | setControl sp pc ei ha st cy dr _ ih => exact .setControl sp pc ei ha st cy dr ih
  | setHaltBug b hb _ ih => exact .setHaltBug b hb ih
  | setIme b hb _ ih => exact .setIme b (hw hb) ih

end CpuEffect

/-- The counts a CPU step can return (R801). -/
def stepCounts : List Nat := [4, 8, 12, 16, 20, 24]

/-- The result is a next state made by an effect of the CPU, with one of the counts of R801. -/
def AnswersEffect (w : Prop) (s : State) (r : Result) : Prop :=
  ∃ u n, r = State.finish u n ∧ n ∈ stepCounts ∧ CpuEffect w s u

theorem AnswersEffect.finish {w : Prop} {s u : State} {n : Nat} (h : CpuEffect w s u)
    (hn : n ∈ stepCounts := by decide) : AnswersEffect w s (u.finish n) :=
  ⟨u, n, rfl, hn, h⟩

theorem AnswersEffect.branch {w : Prop} {s u : State} {taken : Bool} {n m : Nat} (h : CpuEffect w s u)
    (hn : n ∈ stepCounts := by decide) (hm : m ∈ stepCounts := by decide) :
    AnswersEffect w s (s.branch taken u n m) := by
  cases taken with
  | true => exact .finish h hn
  | false => exact .finish .refl hm

/-- What an instruction can do, by the operation it is made of; DI and RETI alone write IME (R106). -/
theorem exec_answersEffect (i : Instr) (s : State) : AnswersEffect (i = .di ∨ i = .reti) s (exec i s) := by
  cases i with
  | nop | undefined_d3 | undefined_db | undefined_dd | undefined_e3 | undefined_e4 | undefined_eb | undefined_ec
  | undefined_ed | undefined_f4 | undefined_fc | undefined_fd =>
    exact .finish .refl
  | ld_b_n _ | ld_c_n _ | ld_d_n _ | ld_e_n _ | ld_h_n _ | ld_l_n _ | ld_a_n _ | ld_a_mbc | ld_a_mde | ld_b_b
  | ld_b_c | ld_b_d | ld_b_e | ld_b_h | ld_b_l | ld_b_a | ld_c_b | ld_c_c | ld_c_d | ld_c_e | ld_c_h | ld_c_l
  | ld_c_a | ld_d_b | ld_d_c | ld_d_d | ld_d_e | ld_d_h | ld_d_l | ld_d_a | ld_e_b | ld_e_c | ld_e_d | ld_e_e
  | ld_e_h | ld_e_l | ld_e_a | ld_h_b | ld_h_c | ld_h_d | ld_h_e | ld_h_h | ld_h_l | ld_h_a | ld_l_b | ld_l_c
  | ld_l_d | ld_l_e | ld_l_h | ld_l_l | ld_l_a | ld_a_b | ld_a_c | ld_a_d | ld_a_e | ld_a_h | ld_a_l | ld_a_a
  | ld_b_mhl | ld_c_mhl | ld_d_mhl | ld_e_mhl | ld_h_mhl | ld_l_mhl | ld_a_mhl | ldh_a_mn _ | ld_a_mc | ld_a_mnn _
  | res_0_b | res_0_c | res_0_d | res_0_e | res_0_h | res_0_l | res_0_a | res_1_b | res_1_c | res_1_d | res_1_e
  | res_1_h | res_1_l | res_1_a | res_2_b | res_2_c | res_2_d | res_2_e | res_2_h | res_2_l | res_2_a | res_3_b
  | res_3_c | res_3_d | res_3_e | res_3_h | res_3_l | res_3_a | res_4_b | res_4_c | res_4_d | res_4_e | res_4_h
  | res_4_l | res_4_a | res_5_b | res_5_c | res_5_d | res_5_e | res_5_h | res_5_l | res_5_a | res_6_b | res_6_c
  | res_6_d | res_6_e | res_6_h | res_6_l | res_6_a | res_7_b | res_7_c | res_7_d | res_7_e | res_7_h | res_7_l
  | res_7_a | set_0_b | set_0_c | set_0_d | set_0_e | set_0_h | set_0_l | set_0_a | set_1_b | set_1_c | set_1_d
  | set_1_e | set_1_h | set_1_l | set_1_a | set_2_b | set_2_c | set_2_d | set_2_e | set_2_h | set_2_l | set_2_a
  | set_3_b | set_3_c | set_3_d | set_3_e | set_3_h | set_3_l | set_3_a | set_4_b | set_4_c | set_4_d | set_4_e
  | set_4_h | set_4_l | set_4_a | set_5_b | set_5_c | set_5_d | set_5_e | set_5_h | set_5_l | set_5_a | set_6_b
  | set_6_c | set_6_d | set_6_e | set_6_h | set_6_l | set_6_a | set_7_b | set_7_c | set_7_d | set_7_e | set_7_h
  | set_7_l | set_7_a =>
    exact .finish (.setReg _ _ .refl)
  | ld_bc_nn _ | ld_de_nn _ | ld_hl_nn _ | ld_sp_nn _ | inc_bc | inc_de | inc_hl | inc_sp | dec_bc | dec_de | dec_hl
  | dec_sp | ld_sp_hl =>
    exact .finish (.setReg16 _ _ .refl)
  | pop_bc | pop_de | pop_hl | pop_af =>
    exact .finish (.setReg16 _ _ (.popped .refl))
  | scf | ccf | cp_b | cp_c | cp_d | cp_e | cp_h | cp_l | cp_mhl | cp_a | cp_n _ | bit_0_b | bit_0_c | bit_0_d
  | bit_0_e | bit_0_h | bit_0_l | bit_0_a | bit_1_b | bit_1_c | bit_1_d | bit_1_e | bit_1_h | bit_1_l | bit_1_a
  | bit_2_b | bit_2_c | bit_2_d | bit_2_e | bit_2_h | bit_2_l | bit_2_a | bit_3_b | bit_3_c | bit_3_d | bit_3_e
  | bit_3_h | bit_3_l | bit_3_a | bit_4_b | bit_4_c | bit_4_d | bit_4_e | bit_4_h | bit_4_l | bit_4_a | bit_5_b
  | bit_5_c | bit_5_d | bit_5_e | bit_5_h | bit_5_l | bit_5_a | bit_6_b | bit_6_c | bit_6_d | bit_6_e | bit_6_h
  | bit_6_l | bit_6_a | bit_7_b | bit_7_c | bit_7_d | bit_7_e | bit_7_h | bit_7_l | bit_7_a | bit_0_mhl | bit_1_mhl
  | bit_2_mhl | bit_3_mhl | bit_4_mhl | bit_5_mhl | bit_6_mhl | bit_7_mhl =>
    exact .finish (.setF _ .refl)
  | inc_b | inc_c | inc_d | inc_e | inc_h | inc_l | inc_a | dec_b | dec_c | dec_d | dec_e | dec_h | dec_l | dec_a
  | rlc_b | rlc_c | rlc_d | rlc_e | rlc_h | rlc_l | rlc_a | rrc_b | rrc_c | rrc_d | rrc_e | rrc_h | rrc_l | rrc_a
  | rl_b | rl_c | rl_d | rl_e | rl_h | rl_l | rl_a | rr_b | rr_c | rr_d | rr_e | rr_h | rr_l | rr_a | sla_b | sla_c
  | sla_d | sla_e | sla_h | sla_l | sla_a | sra_b | sra_c | sra_d | sra_e | sra_h | sra_l | sra_a | swap_b | swap_c
  | swap_d | swap_e | swap_h | swap_l | swap_a | srl_b | srl_c | srl_d | srl_e | srl_h | srl_l | srl_a =>
    exact .finish (.setF _ (.setReg _ _ .refl))
  | rlca | rrca | rla | rra | daa | cpl | add_a_b | add_a_c | add_a_d | add_a_e | add_a_h | add_a_l | add_a_mhl
  | add_a_a | adc_a_b | adc_a_c | adc_a_d | adc_a_e | adc_a_h | adc_a_l | adc_a_mhl | adc_a_a | sub_b | sub_c | sub_d
  | sub_e | sub_h | sub_l | sub_mhl | sub_a | sbc_a_b | sbc_a_c | sbc_a_d | sbc_a_e | sbc_a_h | sbc_a_l | sbc_a_mhl
  | sbc_a_a | and_b | and_c | and_d | and_e | and_h | and_l | and_mhl | and_a | xor_b | xor_c | xor_d | xor_e | xor_h
  | xor_l | xor_mhl | xor_a | or_b | or_c | or_d | or_e | or_h | or_l | or_mhl | or_a | add_a_n _ | adc_a_n _
  | sub_n _ | sbc_a_n _ | and_n _ | xor_n _ | or_n _ =>
    exact .finish (.setF _ (.setReg .a _ .refl))
  | add_hl_bc | add_hl_de | add_hl_hl | add_hl_sp | add_sp_e _ | ld_hl_sp_e _ =>
    exact .finish (.setF _ (.setReg16 _ _ .refl))
  | ld_mbc_a | ld_mde_a | ld_mhl_n _ | ld_mhl_b | ld_mhl_c | ld_mhl_d | ld_mhl_e | ld_mhl_h | ld_mhl_l | ld_mhl_a
  | ldh_mn_a _ | ld_mc_a | ld_mnn_a _ | res_0_mhl | res_1_mhl | res_2_mhl | res_3_mhl | res_4_mhl | res_5_mhl
  | res_6_mhl | res_7_mhl | set_0_mhl | set_1_mhl | set_2_mhl | set_3_mhl | set_4_mhl | set_5_mhl | set_6_mhl
  | set_7_mhl =>
    exact .finish (.write _ _ .refl)
  | inc_mhl | dec_mhl | rlc_mhl | rrc_mhl | rl_mhl | rr_mhl | sla_mhl | sra_mhl | swap_mhl | srl_mhl =>
    exact .finish (.setF _ (.write _ _ .refl))
  | ld_mnn_sp _ =>
    exact .finish (.write _ _ (.write _ _ .refl))
  | ld_mhli_a | ld_mhld_a =>
    exact .finish (.setReg16 _ _ (.write _ _ .refl))
  | ld_a_mhli | ld_a_mhld =>
    exact .finish (.setReg16 _ _ (.setReg _ _ .refl))
  | push_bc | push_de | push_hl | push_af =>
    exact .finish (.push16 _ .refl)
  | jr_e _ | jp_nn _ | jp_hl =>
    exact .finish (.jump _ .refl)
  | jr_nz_e _ | jr_z_e _ | jr_nc_e _ | jr_c_e _ | jp_nz_nn _ | jp_z_nn _ | jp_nc_nn _ | jp_c_nn _ =>
    exact .branch (.jump _ .refl)
  | rst_00 | rst_08 | rst_10 | rst_18 | rst_20 | rst_28 | rst_30 | rst_38 | call_nn _ =>
    exact .finish (.jump _ (.push16 _ .refl))
  | call_nz_nn _ | call_z_nn _ | call_nc_nn _ | call_c_nn _ =>
    exact .branch (.jump _ (.push16 _ .refl))
  | ret =>
    exact .finish (.jump _ (.popped .refl))
  | ret_nz | ret_z | ret_nc | ret_c =>
    exact .branch (.jump _ (.popped .refl))
  | halt =>
    exact .finish (.halt .refl)
  | stop _ | ei =>
    exact .finish (.setControl _ _ _ _ _ _ _ .refl)
  | di =>
    exact .finish (.disableInterrupts (.inl rfl) .refl)
  | reti =>
    exact .finish (.returnFromInterrupt (.inr rfl) .refl)

/-! ## The CPU step, case by case -/

/-- Waking changes nothing that a fetch reads. -/
theorem State.fetchInstr_wake (s : State) : { s with halted := false }.fetchInstr.1 = s.fetchInstr.1 := by
  rw [State.fetchInstr_eq, State.fetchInstr_eq]
  rfl

/-- The cases of R800: an idle slot, a dispatch, or one instruction of the CPU, awake. -/
theorem State.cpuStep_cases {s t : State} (h : s.cpuStep = .next t) :
    ((s.stopped = true ∨ s.halted = true ∧ s.pending = 0) ∧ t = { s with cycles := 4 }) ∨
    (s.stopped = false ∧ s.ime = true ∧ ∃ i, lowestBit s.pending = some i ∧ t = s.dispatch i) ∨
    (s.stopped = false ∧ (s.ime = true → s.pending = 0) ∧ (s.halted = true → s.pending ≠ 0) ∧
      { s with halted := false }.runInstr = .next t) := by
  unfold State.cpuStep at h
  by_cases hs : s.stopped = true
  · rw [if_pos hs] at h
    cases h
    exact .inl ⟨.inl hs, rfl⟩
  rw [if_neg hs] at h
  have hs : s.stopped = false := by simpa using hs
  split at h
  next i hi =>
    cases h
    by_cases him : s.ime = true
    · rw [if_pos him] at hi
      exact .inr (.inl ⟨hs, him, i, hi, rfl⟩)
    · rw [if_neg him] at hi
      cases hi
  next hi =>
    have hp : s.ime = true → s.pending = 0 := fun him => by
      rw [if_pos him] at hi
      exact (lowestBit_pending_none s).1 hi
    by_cases hh : s.halted = true
    · rw [if_pos hh] at h
      by_cases hz : s.pending = 0
      · rw [if_pos hz] at h
        cases h
        exact .inl ⟨.inr ⟨hh, hz⟩, rfl⟩
      · rw [if_neg hz] at h
        exact .inr (.inr ⟨hs, hp, fun _ => hz, h⟩)
    · rw [if_neg hh] at h
      have awake : { s with halted := false } = s := by
        rw [← Bool.eq_false_iff.2 hh]
      exact .inr (.inr ⟨hs, hp, fun h' => absurd h' hh, awake ▸ h⟩)

/-- One instruction: `exec` on the fetched state, then the EI delay (R800 (d)). -/
theorem State.runInstr_cases {s t : State} (h : s.runInstr = .next t) :
    ∃ u, exec s.fetchInstr.1 s.fetchInstr.2 = .next u ∧ t = u.applyEiDelay s.eiPending :=
  thenState_eq_next h

/-- An instruction's next state is an effect of the CPU, with one of the counts of R801. -/
theorem exec_effect {i : Instr} {s t : State} (h : exec i s = .next t) :
    CpuEffect (i = .di ∨ i = .reti) s t ∧ t.cycles ∈ stepCounts := by
  obtain ⟨u, n, hu, hn, he⟩ := exec_answersEffect i s
  rw [hu] at h
  cases h
  exact ⟨.setControl _ _ _ _ _ _ _ he, hn⟩

/-- So is a CPU step's. -/
theorem State.cpuStep_effect {s t : State} (h : s.cpuStep = .next t) :
    CpuEffect True s t ∧ t.cycles ∈ stepCounts := by
  rcases State.cpuStep_cases h with ⟨-, rfl⟩ | ⟨-, -, i, -, rfl⟩ | ⟨-, -, -, hr⟩
  · exact ⟨.setControl _ _ _ _ _ _ _ .refl, (by decide : 4 ∈ stepCounts)⟩
  · exact ⟨.dispatch i trivial .refl, (by decide : 20 ∈ stepCounts)⟩
  · obtain ⟨u, hu, rfl⟩ := State.runInstr_cases hr
    obtain ⟨he, hn⟩ := exec_effect hu
    have awake : CpuEffect True s { s with halted := false } := .setControl _ _ _ _ _ _ _ .refl
    exact ⟨.applyEiDelay _ trivial (awake.fetchInstr.trans he fun _ => trivial), by simpa using hn⟩

/-- A step is a CPU step, then the PPU and both counters, then the end of a used-up frame (R901). -/
theorem step_cases {s t : State} (h : step s = .next t) :
    ∃ u, s.cpuStep = .next u ∧ t = u.afterCpu.closeFrame := by
  obtain ⟨v, hv, rfl⟩ := thenState_eq_next h
  obtain ⟨u, hu, rfl⟩ := thenState_eq_next hv
  exact ⟨u, hu, rfl⟩

/-! ## What the operations keep -/

/-- Writing a pair keeps F's low nibble 0: AF is written through R103, the other pairs leave F alone. -/
theorem State.setReg16_low (s : State) (r : Reg16) (v : Word) (h : s.f &&& 0x0F#8 = 0) :
    (s.setReg16 r v).f &&& 0x0F#8 = 0 := by
  cases r with
  | af => exact State.setF_low _ _
  | bc | de | hl | sp => exact h

/-- F's low nibble 0 is AF's. -/
theorem State.reg16_af_low {s : State} (h : s.f &&& 0x0F#8 = 0) : s.reg16 .af &&& 0x000F#16 = 0 := by
  show (s.a ++ s.f : Word) &&& (0x00#8 ++ 0x0F#8 : Word) = 0
  rw [BitVec.and_append, h, BitVec.and_zero]
  rfl

/-- An index of zero resolves to bank one, so no bank register holds 0 (R276, R280, R284). -/
theorem zeroToOne_ne_zero {w : Nat} (b : BitVec (w + 1)) : zeroToOne b ≠ 0 := by
  unfold zeroToOne
  split
  · simp
  · assumption

/-- A write keeps what holds of every listed cell. -/
theorem Memory.write_all {p : Host.Cell → Bool} {m : Memory} (a : Nat) (v : Byte) (hm : List.all m p = true)
    (ha : p (a, v) = true) : List.all (m.write a v) p = true := by
  induction m with
  | nil => by_cases h : v = Memory.unlisted <;> simp [Memory.write, h, ha]
  | cons cell m ih =>
    obtain ⟨k, w⟩ := cell
    simp only [List.all_cons, Bool.and_eq_true] at hm
    unfold Memory.write
    split_ifs with h₁ h₂ h₃ h₄
    · simp [hm]
    · simp [ha, hm]
    · exact hm.2
    · simp [← h₃, ha, hm]
    · simp [hm, ih hm.2]

/-- A command keeps the registers in their ranges: bank 0 becomes 1, a rumble board takes three bits of RAM bank (R288). -/
theorem Cart.writeRom_ctrl_ok (c : Cart) (a : Nat) (v : Byte) (h : c.ctrl.ok c.typeCode) :
    (c.writeRom a v).ctrl.ok c.typeCode := by
  unfold Cart.writeRom
  split
  next hc => exact h
  next r hc =>
    rw [hc] at h
    show (r.write a v).bank1 ≠ 0
    unfold Mbc1.write
    split_ifs
    · exact h
    · exact zeroToOne_ne_zero _
    · exact h
    · exact h
  next r hc =>
    rw [hc] at h
    show (r.write a v).romb ≠ 0
    unfold Mbc2.write
    split_ifs
    · exact zeroToOne_ne_zero _
    · exact h
    · exact h
  next r hc =>
    rw [hc] at h
    show (r.write a v).romb ≠ 0
    unfold Mbc3.write
    split_ifs
    · exact h
    · exact zeroToOne_ne_zero _
    · exact h
    · exact h
  next r hc =>
    rw [hc] at h
    intro hrumble
    have three : ∀ b : Byte, (b &&& 0x07#8).setWidth 4 < 8#4 := by decide
    show (r.write (isRumble c.typeCode) a v).ramb < 8
    unfold Mbc5.write
    rw [hrumble, if_pos rfl]
    split_ifs
    · exact h hrumble
    · exact h hrumble
    · exact h hrumble
    · exact three v
    · exact h hrumble

/-- A command changes no controller into another. -/
theorem Cart.writeRom_sameKind (c : Cart) (a : Nat) (v : Byte) (k : Controller) :
    (c.writeRom a v).ctrl.sameKind k = c.ctrl.sameKind k := by
  unfold Cart.writeRom
  split
  next => rfl
  all_goals
    next hc =>
      rw [hc]
      cases k <;> rfl

/-- A command keeps everything of a cartridge but the controller. -/
theorem Cart.writeRom_changes (c : Cart) (a : Nat) (v : Byte) :
    c.writeRom a v = { c with ctrl := (c.writeRom a v).ctrl } := by
  unfold Cart.writeRom
  split <;> rfl

/-- Only an MBC2 is an MBC2 after a command. -/
theorem Cart.writeRom_mbc2 {c : Cart} {a : Nat} {v : Byte} {r : Mbc2} (h : (c.writeRom a v).ctrl = .mbc2 r) :
    ∃ q, c.ctrl = .mbc2 q := by
  unfold Cart.writeRom at h
  split at h
  next hc => rw [hc] at h; cases h
  next => cases h
  next q hc => exact ⟨q, hc⟩
  next => cases h
  next => cases h

theorem Cart.Ok.writeRom {c : Cart} (h : c.Ok) (a : Nat) (v : Byte) : (c.writeRom a v).Ok := by
  have hk := Cart.writeRom_sameKind c a v (controllerOf c.typeCode)
  have hc := Cart.writeRom_ctrl_ok c a v h.ctrl
  have hm := fun r => Cart.writeRom_mbc2 (c := c) (a := a) (v := v) (r := r)
  rw [Cart.writeRom_changes]
  exact {
    len := h.len
    banks := h.banks
    size := h.size
    img := h.img
    ram := h.ram
    kind := hk.trans h.kind
    ctrl := hc
    mbc2 := fun r hr =>
      have ⟨q, hq⟩ := hm r hr
      h.mbc2 q hq }

/-- A byte put within the RAM keeps the cartridge legal, four-bit cells taking four bits (R265, R281). -/
theorem Cart.Ok.putRam {c : Cart} (h : c.Ok) {off : Nat} (hoff : off < c.ramSize) (v : Byte)
    (hv : ∀ r, c.ctrl = .mbc2 r → v ≤ 0x0F#8) : { c with ram := c.ram.write off v }.Ok := {
  len := h.len
  banks := h.banks
  size := h.size
  img := h.img
  ram := ⟨Memory.write_wf _ _ h.ram.1, Memory.write_keysIn _ _ h.ram.2 (decide_eq_true hoff)⟩
  kind := h.kind
  ctrl := h.ctrl
  mbc2 := fun r hr =>
    have ⟨hsize, hcells⟩ := h.mbc2 r hr
    ⟨hsize, Memory.write_all _ _ hcells (decide_eq_true (hv r hr))⟩ }

theorem Cart.Ok.writeRam {c : Cart} (h : c.Ok) (a : Nat) (v : Byte) : (c.writeRam a v).Ok := by
  unfold Cart.writeRam
  split
  next => exact h
  next off ht =>
    obtain ⟨hoff, hno⟩ := Cart.cell_lt ht
    exact h.putRam hoff v fun r hr => absurd hr (hno r)
  next off ht =>
    obtain ⟨r, hr, hoff⟩ := Cart.mbc2_of_nibble ht
    have nibble : ∀ b : Byte, b &&& 0x0F#8 ≤ 0x0F#8 := by decide
    exact h.putRam ((h.mbc2 r hr).1 ▸ hoff) _ fun _ _ => nibble v
  next => exact h

/-- A write to the bus keeps the cartridge legal, if there is one. -/
theorem State.write_cartOk (s : State) (addr : Word) (v : Byte) (h : s.cartOk) : (s.write addr v).cartOk := by
  rcases s.write_cases addr v with ⟨-, e⟩ | ⟨-, e⟩ | ⟨-, e⟩ | ⟨-, -, -, e⟩ <;> rw [e]
  · intro c hc
    obtain ⟨c', hc', rfl⟩ := Option.map_eq_some_iff.1 hc
    exact (h c' hc').writeRom _ _
  · intro c hc
    obtain ⟨c', hc', rfl⟩ := Option.map_eq_some_iff.1 hc
    exact (h c' hc').writeRam _ _
  · exact h
  · exact h

/-! ## What every effect of the CPU keeps -/

namespace CpuEffect

variable {w : Prop} {s t : State}

/-- R103: F's low nibble stays 0. -/
theorem f_low (h : CpuEffect w s t) (hs : s.f &&& 0x0F#8 = 0) : t.f &&& 0x0F#8 = 0 := by
  induction h with
  | refl => exact hs
  | setF v _ ih => exact State.setF_low _ v
  | setReg16 r v _ ih => exact State.setReg16_low _ r v ih
  | setReg r v _ ih => rwa [State.setReg_f]
  | write addr v _ ih => rwa [State.write_f]
  | setIo _ _ _ _ ih | setControl _ _ _ _ _ _ _ _ ih | setHaltBug _ _ _ ih | setIme _ _ _ ih => exact ih

/-- R109: the halt bug is armed under HALT_BUG only. -/
theorem haltBug (h : CpuEffect w s t) (hs : s.haltBug = true → Config.haltBug = true) :
    t.haltBug = true → Config.haltBug = true := by
  induction h with
  | refl => exact hs
  | setHaltBug b hb _ ih => exact fun h => (hb h).elim ih id
  | setReg r v _ ih => rwa [State.setReg_haltBug]
  | setReg16 r v _ ih => rwa [State.setReg16_haltBug]
  | write addr v _ ih => rwa [State.write_haltBug]
  | setF _ _ ih | setIo _ _ _ _ ih | setControl _ _ _ _ _ _ _ _ ih | setIme _ _ _ ih => exact ih

theorem memOk (h : CpuEffect w s t) (hs : s.memOk) : t.memOk := by
  induction h with
  | refl => exact hs
  | write addr v _ ih => exact State.write_memOk _ addr v ih
  | setIo k v hk _ ih => exact State.setIo_memOk _ k v hk ih
  | setReg r v _ ih => rwa [State.memOk, State.setReg_mem]
  | setReg16 r v _ ih => rwa [State.memOk, State.setReg16_mem]
  | setF _ _ ih | setControl _ _ _ _ _ _ _ _ ih | setHaltBug _ _ _ ih | setIme _ _ _ ih => exact ih

theorem cartOk (h : CpuEffect w s t) (hs : s.cartOk) : t.cartOk := by
  induction h with
  | refl => exact hs
  | write addr v _ ih => exact State.write_cartOk _ addr v ih
  | setReg r v _ ih => rwa [State.cartOk, State.setReg_cart]
  | setReg16 r v _ ih => rwa [State.cartOk, State.setReg16_cart]
  | setF _ _ ih | setIo _ _ _ _ ih | setControl _ _ _ _ _ _ _ _ ih | setHaltBug _ _ _ ih | setIme _ _ _ ih =>
    exact ih

/-- The PPU's counters, the frame buffer and the frame budget are none of the CPU's business. -/
theorem ppu_eq (h : CpuEffect w s t) : t.mode = s.mode ∧ t.dot = s.dot ∧ t.line = s.line ∧ t.winLine = s.winLine ∧
    t.frame = s.frame ∧ t.frameAcc = s.frameAcc := by
  induction h with
  | refl => exact ⟨rfl, rfl, rfl, rfl, rfl, rfl⟩
  | setReg r v _ ih | setReg16 r v _ ih | write r v _ ih => simpa using ih
  | setF _ _ ih | setIo _ _ _ _ ih | setControl _ _ _ _ _ _ _ _ ih | setHaltBug _ _ _ ih | setIme _ _ _ ih =>
    exact ih

/-- R106: IME is as it was where the effect may not write it. -/
theorem ime_eq (h : CpuEffect w s t) (hw : ¬ w) : t.ime = s.ime := by
  induction h with
  | refl => rfl
  | setIme b hb _ ih => exact absurd hb hw
  | setReg r v _ ih | setReg16 r v _ ih | write r v _ ih => simpa using ih
  | setF _ _ ih | setIo _ _ _ _ ih | setControl _ _ _ _ _ _ _ _ ih | setHaltBug _ _ _ ih => exact ih

/-- Every effect of the CPU leads from a legal state to a legal state. -/
theorem inv (h : CpuEffect w s t) (hs : s.Inv) : t.Inv := by
  obtain ⟨hmode, hdot, hline, hwin, hframe, hacc⟩ := h.ppu_eq
  exact {
    cpu := ⟨h.f_low hs.cpu.1, h.haltBug hs.cpu.2⟩
    mem := h.memOk hs.mem
    ppu := by
      unfold State.ppuOk
      rw [hmode, hdot, hline, hwin]
      exact hs.ppu
    cart := h.cartOk hs.cart
    frame := by
      unfold State.frameOk
      rw [hframe]
      exact hs.frame
    driver := by
      unfold State.driverOk
      rw [hacc]
      exact hs.driver }

end CpuEffect

/-! ## What the PPU keeps -/

theorem Frame.rising_cons_iff {k : Nat} {q : List (BitVec 2)} {fr : Frame} :
    Frame.rising ((k, q) :: fr) = true ↔ (∀ row ∈ fr.head?, k < row.1) ∧ fr.rising = true := by
  cases fr <;> simp [Frame.rising]

/-- The first line after a line is put is that line or the first line before. -/
theorem Frame.head_put {fr : Frame} {y : Nat} {px : List (BitVec 2)} {row : Nat × List (BitVec 2)}
    (h : row ∈ (fr.put y px).head?) : row.1 = y ∨ row ∈ fr.head? := by
  cases fr with
  | nil => left; cases h; rfl
  | cons first fr =>
    unfold Frame.put at h
    split_ifs at h
    · left; cases h; rfl
    · left; cases h; rfl
    · exact .inr h

/-- Putting a line keeps the lines rising. -/
theorem Frame.rising_put {fr : Frame} (h : fr.rising = true) (y : Nat) (px : List (BitVec 2)) :
    (fr.put y px).rising = true := by
  induction fr with
  | nil => rfl
  | cons first fr ih =>
    obtain ⟨k, q⟩ := first
    have ⟨hk, hr⟩ := Frame.rising_cons_iff.1 h
    unfold Frame.put
    split_ifs with hlt heq
    · exact Frame.rising_cons_iff.2 ⟨by simpa using hlt, h⟩
    · exact Frame.rising_cons_iff.2 ⟨heq ▸ hk, hr⟩
    · refine Frame.rising_cons_iff.2 ⟨fun row hrow => ?_, ih hr⟩
      rcases Frame.head_put hrow with hy | hold
      · omega
      · exact hk row hold

theorem Frame.all_put {fr : Frame} {p : Nat × List (BitVec 2) → Bool} (h : List.all fr p = true) {y : Nat}
    {px : List (BitVec 2)} (hp : p (y, px) = true) : List.all (fr.put y px) p = true := by
  induction fr with
  | nil => simp [Frame.put, hp]
  | cons row fr ih =>
    obtain ⟨k, q⟩ := row
    simp only [List.all_cons, Bool.and_eq_true] at h
    unfold Frame.put
    split_ifs
    · simp [hp, h]
    · simp [hp, h]
    · simp [h, ih h.2]

theorem State.render_frameOk {s : State} (h : s.frameOk) (ly : Nat) : (s.render ly).frameOk := by
  unfold State.render
  split
  next => exact h
  next hly => exact ⟨Frame.rising_put h.1 _ _, Frame.all_put h.2 (by simp; omega)⟩

/-- Rendering a line counts the window's line counter up by one at most (R872). -/
theorem State.render_winLine_le (s : State) (ly : Nat) : (s.render ly).winLine ≤ s.winLine + 1 := by
  unfold State.render
  split_ifs
  · exact Nat.le_succ _
  · exact Nat.le_refl _
  · exact Nat.le_succ _

/-! ### The end of a mode, by the mode (R852) -/

theorem State.modeEnd_oamSearch {s : State} (h : s.mode = .oamSearch) : s.modeEnd = s.enterMode .drawing := by
  unfold State.modeEnd
  rw [h]

theorem State.modeEnd_drawing {s : State} (h : s.mode = .drawing) :
    s.modeEnd = (s.render s.line).enterMode .hblank := by
  unfold State.modeEnd
  rw [h]

theorem State.modeEnd_hblank {s : State} (h : s.mode = .hblank) :
    s.modeEnd = (s.setLine (s.line + 1)).enterMode (if s.line + 1 < 144 then .oamSearch else .vblank) := by
  unfold State.modeEnd
  rw [h]
  simp only [State.setLine_line]
  split_ifs <;> rfl

theorem State.modeEnd_vblank {s : State} (h : s.mode = .vblank) :
    s.modeEnd = if s.line + 1 = 154 then ({ s with winLine := 0 }.setLine 0).enterMode .oamSearch
      else s.setLine (s.line + 1) := by
  unfold State.modeEnd
  rw [h]

theorem State.modeEnd_memOk {s : State} (h : s.memOk) : s.modeEnd.memOk := by
  cases hm : s.mode with
  | oamSearch =>
    rw [State.modeEnd_oamSearch hm]
    exact s.enterMode_memOk _ h
  | drawing =>
    rw [State.modeEnd_drawing hm]
    exact State.enterMode_memOk _ _ (by rwa [State.memOk, State.render_mem])
  | hblank =>
    rw [State.modeEnd_hblank hm]
    exact State.enterMode_memOk _ _ (s.setLine_memOk _ h)
  | vblank =>
    rw [State.modeEnd_vblank hm]
    split_ifs
    · exact State.enterMode_memOk _ _ (State.setLine_memOk _ _ h)
    · exact s.setLine_memOk _ h

theorem State.modeEnd_frameOk {s : State} (h : s.frameOk) : s.modeEnd.frameOk := by
  cases hm : s.mode with
  | oamSearch =>
    rw [State.modeEnd_oamSearch hm, State.frameOk, State.enterMode_frame]
    exact h
  | drawing =>
    rw [State.modeEnd_drawing hm, State.frameOk, State.enterMode_frame]
    exact State.render_frameOk h _
  | hblank =>
    rw [State.modeEnd_hblank hm, State.frameOk, State.enterMode_frame, State.setLine_frame]
    exact h
  | vblank =>
    rw [State.modeEnd_vblank hm]
    split_ifs
    · rw [State.frameOk, State.enterMode_frame, State.setLine_frame]
      exact h
    · rw [State.frameOk, State.setLine_frame]
      exact h

/-- R854: a mode ends in the next with the counter at 0, line and mode agreeing. -/
theorem State.modeEnd_ppuOk {s : State} (h : s.ppuOk) (h0 : s.dot = 0) : s.modeEnd.ppuOk := by
  obtain ⟨hline, -, hvb, hwin, hwl⟩ := h
  cases hm : s.mode with
  | oamSearch =>
    have hvis : s.line < 144 := by simpa [hm] using hvb
    have hcount : s.winLine ≤ s.line := by simpa [hm] using hwl
    rw [State.modeEnd_oamSearch hm]
    simp [State.ppuOk, PpuMode.budget, h0]
    omega
  | drawing =>
    have hvis : s.line < 144 := by simpa [hm] using hvb
    have hcount : s.winLine ≤ s.line := by simpa [hm] using hwl
    have hrender := s.render_winLine_le s.line
    rw [State.modeEnd_drawing hm]
    simp [State.ppuOk, PpuMode.budget, h0]
    omega
  | hblank =>
    have hvis : s.line < 144 := by simpa [hm] using hvb
    have hcount : s.winLine ≤ s.line + 1 := by simpa [hm] using hwl
    rw [State.modeEnd_hblank hm]
    split_ifs <;> simp [State.ppuOk, PpuMode.budget, h0] <;> omega
  | vblank =>
    have hinvis : 144 ≤ s.line := by simpa [hm] using hvb
    rw [State.modeEnd_vblank hm]
    split_ifs
    · simp [State.ppuOk, PpuMode.budget, h0]
    · simp [State.ppuOk, PpuMode.budget, h0, hm]
      omega

/-- A tick leads from a legal state to a legal state. -/
theorem State.tick_inv {s : State} (h : s.Inv) : s.tick.Inv := by
  have hcpu : s.tick.cpuOk := by simpa [State.cpuOk] using h.cpu
  have hcart : s.tick.cartOk := by simpa [State.cartOk] using h.cart
  have hdriver : s.tick.driverOk := by simpa [State.driverOk] using h.driver
  obtain ⟨hline, hdot, hrest⟩ := h.ppu
  refine ⟨hcpu, ?_, ?_, hcart, ?_, hdriver⟩ <;> unfold State.tick <;> split_ifs with hd
  · exact State.modeEnd_memOk (s := { s with dot := 0 }) h.mem
  · exact h.mem
  · exact State.modeEnd_ppuOk (s := { s with dot := 0 }) ⟨hline, Nat.zero_lt_of_lt hdot, hrest⟩ rfl
  · exact ⟨hline, Nat.lt_of_le_of_ne hdot hd, hrest⟩
  · exact State.modeEnd_frameOk (s := { s with dot := 0 }) h.frame
  · exact h.frame

theorem State.advance_inv (n : Nat) {s : State} (h : s.Inv) : (State.advance n s).Inv := by
  induction n generalizing s with
  | zero => exact h
  | succ n ih => exact ih (State.tick_inv h)

/-- The rest of a pass after the CPU step: the PPU advanced, and both counters, a used-up frame taken off (R901). -/
theorem State.closeFrame_afterCpu (s : State) :
    s.afterCpu.closeFrame =
      { State.advance s.cycles s with
        frameAcc := if Config.cyclesPerFrame ≤ s.frameAcc + s.cycles then
          s.frameAcc + s.cycles - Config.cyclesPerFrame else s.frameAcc + s.cycles
        cycleCount := s.cycleCount + s.cycles } := by
  unfold State.afterCpu State.closeFrame
  simp only [State.advance_frameAcc, State.advance_cycleCount]
  split_ifs <;> rfl

/-- A pass that counts less than a frame leads from a legal state to a legal state (R143, R901). -/
theorem State.endOfPass_inv {s : State} (h : s.Inv) (hn : s.cycles < Config.cyclesPerFrame) :
    s.afterCpu.closeFrame.Inv := by
  have hv := State.advance_inv s.cycles h
  have hacc : s.frameAcc < Config.cyclesPerFrame := h.driver
  have hd : (if Config.cyclesPerFrame ≤ s.frameAcc + s.cycles then s.frameAcc + s.cycles - Config.cyclesPerFrame
      else s.frameAcc + s.cycles) < Config.cyclesPerFrame := by
    split_ifs <;> omega
  rw [State.closeFrame_afterCpu]
  exact {
    cpu := hv.cpu
    mem := hv.mem
    ppu := hv.ppu
    cart := hv.cart
    frame := hv.frame
    driver := hd }

/-! ## What writes IME (R106) -/

/-- An instruction that changes IME is DI or RETI. -/
theorem exec_writesIme {i : Instr} {s t : State} (h : exec i s = .next t) (hne : t.ime ≠ s.ime) :
    i = .di ∨ i = .reti := by
  by_contra hi
  exact hne ((exec_effect h).1.ime_eq hi)

theorem exec_di_ime {s t : State} (h : exec .di s = .next t) : t.ime = false := by
  cases h
  rfl

theorem exec_reti_ime {s t : State} (h : exec .reti s = .next t) : t.ime = true := by
  cases h
  rfl

/-- The EI delay only ever raises IME. -/
theorem State.applyEiDelay_ime (s : State) (pend : Bool) :
    (s.applyEiDelay pend).ime = (s.ime || pend && s.eiPending) := by
  unfold State.applyEiDelay
  split
  next h => simp [h]
  next h => simp [Bool.eq_false_iff.2 h]

theorem State.runInstr_raises_ime {s t : State} (h : s.runInstr = .next t) (h0 : s.ime = false)
    (h1 : t.ime = true) : s.eiPending = true ∨ s.fetchInstr.1 = .reti := by
  obtain ⟨u, hu, rfl⟩ := State.runInstr_cases h
  rw [State.applyEiDelay_ime] at h1
  cases he : s.eiPending with
  | true => exact .inl rfl
  | false =>
    have hu1 : u.ime = true := by simpa [he] using h1
    rcases exec_writesIme hu (by simp [hu1, h0]) with hi | hi
    · rw [hi] at hu
      rw [exec_di_ime hu] at hu1
      cases hu1
    · exact .inr hi

theorem State.runInstr_lowers_ime {s t : State} (h : s.runInstr = .next t) (h1 : s.ime = true)
    (h0 : t.ime = false) : s.fetchInstr.1 = .di := by
  obtain ⟨u, hu, rfl⟩ := State.runInstr_cases h
  rw [State.applyEiDelay_ime, Bool.or_eq_false_iff] at h0
  rcases exec_writesIme hu (by simp [h0.1, h1]) with hi | hi
  · exact hi
  · rw [hi] at hu
    exact absurd (exec_reti_ime hu) (by simp [h0.1])

/-! ## The obligations of 10_state -/

/-- Settles O38: the CPU step is an effect of the CPU, and each tick of the PPU keeps the invariant. -/
theorem stepKeepsInvariant : Obligations.StepKeepsInvariant := by
  intro s t hs h
  obtain ⟨u, hu, rfl⟩ := step_cases h
  obtain ⟨he, hn⟩ := State.cpuStep_effect hu
  refine State.endOfPass_inv (he.inv hs) ?_
  have : ∀ n ∈ stepCounts, n < Config.cyclesPerFrame := by decide
  exact this _ hn

/-- Settles O35: an idle slot keeps IME, a dispatch needs it set and something pending, and what an instruction makes of
it is that of DI, RETI and the EI delay. -/
theorem whatWritesIme : Obligations.WhatWritesIme := by
  refine ⟨fun i s t => exec_writesIme, fun s t h h0 h1 => ?_, fun s t h h1 h0 => ?_⟩
  · rcases State.cpuStep_cases h with ⟨-, rfl⟩ | ⟨-, him, -⟩ | ⟨hs, -, -, hr⟩
    · exact absurd (h0.symm.trans h1) (by decide)
    · exact absurd (h0.symm.trans him) (by decide)
    · have := State.runInstr_raises_ime hr h0 h1
      rw [State.fetchInstr_wake] at this
      exact ⟨hs, this⟩
  · rcases State.cpuStep_cases h with ⟨-, rfl⟩ | ⟨hs, -, i, hi, -⟩ | ⟨hs, -, -, hr⟩
    · exact absurd (h0.symm.trans h1) (by decide)
    · refine ⟨hs, .inl fun hp => ?_⟩
      rw [(lowestBit_pending_none s).2 hp] at hi
      cases hi
    · have := State.runInstr_lowers_ime hr h1 h0
      rw [State.fetchInstr_wake] at this
      exact ⟨hs, .inr this⟩

/-- Settles O36: R103 holds of every write of AF and is kept by every effect of the CPU; the PPU has no part in F. -/
theorem flagLowNibbleIsZero : Obligations.FlagLowNibbleIsZero := by
  refine ⟨fun s v => rfl, fun i s t h hs => (exec_effect h).1.f_low hs, fun s t h hs => ?_⟩
  obtain ⟨u, hu, rfl⟩ := step_cases h
  have hf : u.afterCpu.closeFrame.f &&& 0x0F#8 = 0 := by
    rw [State.closeFrame_f, State.afterCpu_f]
    exact (State.cpuStep_effect hu).1.f_low hs
  exact ⟨hf, State.reg16_af_low hf⟩

/-- Settles O37: each part is evaluated at the reset values (R150). -/
theorem resetMeetsInvariant : Obligations.ResetMeetsInvariant where
  cpu := ⟨rfl, nofun⟩
  mem := ⟨rfl, rfl⟩
  ppu := by unfold State.ppuOk; decide
  cart := nofun
  frame := ⟨rfl, rfl⟩
  driver := by unfold State.driverOk; decide

end Sys2Proof.Machine

namespace Sys2Proof.Machine

/-! ## The rows of the address map (R202) -/

/-- The numbers of a region's addresses. -/
def Region.Spans : Region → Nat → Prop
  | .rom, n => n < 0x8000
  | .vram, n => 0x8000 ≤ n ∧ n < 0xA000
  | .extRam, n => 0xA000 ≤ n ∧ n < 0xC000
  | .wram, n => 0xC000 ≤ n ∧ n < 0xE000
  | .echo, n => 0xE000 ≤ n ∧ n < 0xFE00
  | .oam, n => 0xFE00 ≤ n ∧ n < 0xFEA0
  | .unusable, n => 0xFEA0 ≤ n ∧ n < 0xFF00
  | .joypad, n => n = 0xFF00
  | .io, n => 0xFF01 ≤ n ∧ n < 0xFF80
  | .hram, n => 0xFF80 ≤ n ∧ n < 0xFFFF
  | .ie, n => n = 0xFFFF

/-- The rows exclude one another. -/
theorem Region.Spans.unique {q r : Region} {n : Nat} (hq : q.Spans n) (hr : r.Spans n) : q = r := by
  cases q <;> cases r <;> simp [Region.Spans] at hq hr ⊢ <;> omega

theorem regionOf_spans (a : Word) : (regionOf a).Spans a.toNat := by
  have h := regionOf_range a
  cases hr : regionOf a <;> rw [hr] at h <;> exact h

theorem regionOf_eq {a : Word} {r : Region} (h : r.Spans a.toNat) : regionOf a = r :=
  (regionOf_spans a).unique h

theorem spans_of_regionOf {a : Word} {r : Region} (h : regionOf a = r) : r.Spans a.toNat :=
  h ▸ regionOf_spans a

/-! ## The cell of an address (R208, R212) -/

theorem cellOf_echo {a : Word} (h : regionOf a = .echo) : cellOf a = a.toNat - 0x2000 := by
  unfold cellOf
  rw [h]

theorem cellOf_ie {a : Word} (h : regionOf a = .ie) : cellOf a = 0xFF7F := by
  unfold cellOf
  rw [h]

/-- Every other address keeps its byte under its own number. -/
theorem cellOf_own {a : Word} {r : Region} (h : regionOf a = r) (hecho : r ≠ .echo := by decide)
    (hie : r ≠ .ie := by decide) : cellOf a = a.toNat := by
  subst h
  unfold cellOf
  split
  next he => exact absurd he hecho
  next hi => exact absurd hi hie
  next => rfl

/-! ## Reads and writes, region by region -/

section

variable {s t : State} {a b addr : Word}

theorem State.read_rom (h : regionOf a = .rom) (s : State) : s.read a = s.readCartRom a.toNat := by
  unfold State.read State.readAt
  rw [h]

theorem State.read_extRam (h : regionOf a = .extRam) (s : State) : s.read a = s.readCartRam s.draws a := by
  unfold State.read State.readAt
  rw [h]

theorem State.read_unusable (h : regionOf a = .unusable) (s : State) : s.read a = 0xFF#8 := by
  unfold State.read State.readAt
  rw [h]

theorem State.read_joypad (h : regionOf a = .joypad) (s : State) : s.read a = s.buttons := by
  unfold State.read State.readAt
  rw [h]

theorem State.read_ram (h : IsRam a) (s : State) : s.read a = s.mem.read (cellOf a) := by
  unfold State.read State.readAt
  rcases h with h | h | h | h | h | h | h <;> rw [h]

theorem State.write_rom (h : regionOf a = .rom) (s : State) (v : Byte) :
    s.write a v = { s with cart := s.cart.map fun c => c.writeRom a.toNat v } := by
  unfold State.write
  rw [h]

theorem State.write_extRam (h : regionOf a = .extRam) (s : State) (v : Byte) :
    s.write a v = { s with cart := s.cart.map fun c => c.writeRam a.toNat v } := by
  unfold State.write
  rw [h]

theorem State.write_unusable (h : regionOf a = .unusable) (s : State) (v : Byte) : s.write a v = s := by
  unfold State.write
  rw [h]

theorem State.write_joypad (h : regionOf a = .joypad) (s : State) (v : Byte) :
    s.write a v = { s with mem := s.mem.write 0xFF00 v } := by
  have hcell : cellOf a = 0xFF00 := (cellOf_own h).trans (spans_of_regionOf h)
  unfold State.write
  rw [h, hcell]

theorem State.write_ram (h : IsRam a) (s : State) (v : Byte) :
    s.write a v = { s with mem := s.mem.write (cellOf a) v } := by
  unfold State.write
  rcases h with h | h | h | h | h | h | h <;> rw [h]

/-- An address that is not the machine's own readable storage shows the cartridge, 0xFF or the buttons. -/
theorem regionOf_of_not_isRam (h : ¬ IsRam a) :
    regionOf a = .rom ∨ regionOf a = .extRam ∨ regionOf a = .unusable ∨ regionOf a = .joypad := by
  unfold IsRam at h
  cases hr : regionOf a <;> simp [hr] at h ⊢

/-- The I/O block but for 0xFF00, and high memory: each byte under its own number. -/
theorem isRam_highPage (h : 0xFF01 ≤ a.toNat ∧ a.toNat < 0xFFFF) : IsRam a ∧ cellOf a = a.toNat := by
  by_cases hio : a.toNat < 0xFF80
  · have hr : regionOf a = .io := regionOf_eq ⟨h.1, hio⟩
    exact ⟨.inr (.inr (.inr (.inr (.inl hr)))), cellOf_own hr⟩
  · have hr : regionOf a = .hram := regionOf_eq ⟨by omega, h.2⟩
    exact ⟨.inr (.inr (.inr (.inr (.inr (.inl hr))))), cellOf_own hr⟩

/-- A readable address's cell is its own, but for the echo of 0xC000 to 0xDDFF and IE. -/
theorem cellOf_cases (h : IsRam a) :
    (cellOf a = a.toNat ∧ a.toNat ≠ 0xFF00) ∨ (0xC000 ≤ cellOf a ∧ cellOf a < 0xDE00) ∨ cellOf a = 0xFF7F := by
  by_cases hecho : regionOf a = .echo
  · have hspan : 0xE000 ≤ a.toNat ∧ a.toNat < 0xFE00 := spans_of_regionOf hecho
    rw [cellOf_echo hecho]
    omega
  by_cases hie : regionOf a = .ie
  · exact .inr (.inr (cellOf_ie hie))
  · refine .inl ⟨cellOf_own rfl hecho hie, fun hj => ?_⟩
    have hjoypad : regionOf a = .joypad := regionOf_eq hj
    simp [IsRam, hjoypad] at h

/-! ### Without a cartridge (R216) -/

theorem State.readCartRom_of_none (h : s.cart = none) (n : Nat) : s.readCartRom n = 0xFF#8 := by
  unfold State.readCartRom
  rw [h]

theorem State.readCartRam_of_none (h : s.cart = none) (n : Nat) (a : Word) : s.readCartRam n a = 0xFF#8 := by
  unfold State.readCartRam
  rw [h]

theorem State.mapCart_of_none (h : s.cart = none) (f : Cart → Cart) : { s with cart := s.cart.map f } = s := by
  rw [h, Option.map_none, ← h]

/-! ## What a write leaves alone -/

/-- A change of the cartridge shows in its two ranges alone. -/
theorem State.read_withCart (c : Option Cart) (hrom : regionOf a ≠ .rom) (hram : regionOf a ≠ .extRam) :
    { s with cart := c }.read a = s.read a := by
  by_cases h : IsRam a
  · rw [State.read_ram h, State.read_ram h]
  · rcases regionOf_of_not_isRam h with h | h | h | h
    · exact absurd h hrom
    · exact absurd h hram
    · rw [State.read_unusable h, State.read_unusable h]
    · rw [State.read_joypad h, State.read_joypad h]

/-- A byte put in memory shows at the readable addresses of its cell alone. -/
theorem State.read_withMem_write {k : Nat} {v : Byte} (h : IsRam a → cellOf a ≠ k) :
    { s with mem := s.mem.write k v }.read a = s.read a := by
  by_cases hr : IsRam a
  · rw [State.read_ram hr, State.read_ram hr]
    exact Memory.read_write_other v (h hr)
  · rcases regionOf_of_not_isRam hr with h | h | h | h
    · rw [State.read_rom h, State.read_rom h]
      rfl
    · rw [State.read_extRam h, State.read_extRam h]
      rfl
    · rw [State.read_unusable h, State.read_unusable h]
    · rw [State.read_joypad h, State.read_joypad h]

/-- No write of cartridge RAM shows in the ROM windows. -/
theorem Cart.readRom_writeRam (c : Cart) (a b : Nat) (v : Byte) : (c.writeRam a v).readRom b = c.readRom b := by
  unfold Cart.writeRam
  split <;> rfl

/-- A write to the RAM window shows in that window alone, where the controller leads to the same target. -/
theorem State.read_writeRam_other (haddr : regionOf addr = .extRam) (v : Byte)
    (h : regionOf a = .extRam → ∀ c, s.cart = some c → c.ramTarget a.toNat ≠ c.ramTarget addr.toNat) :
    (s.write addr v).read a = s.read a := by
  rw [State.write_extRam haddr]
  by_cases hrom : regionOf a = .rom
  · rw [State.read_rom hrom, State.read_rom hrom]
    unfold State.readCartRom
    cases hc : s.cart with
    | none => rfl
    | some c => exact c.readRom_writeRam _ _ v
  by_cases hram : regionOf a = .extRam
  · rw [State.read_extRam hram, State.read_extRam hram]
    unfold State.readCartRam
    cases hc : s.cart with
    | none => rfl
    | some c => exact c.readRam_writeRam_other _ v (h hram c hc)
  · exact State.read_withCart _ hrom hram

/-- Every byte a write does not touch reads as before. -/
theorem State.read_write_of_not_touches (v : Byte) (h : ¬ Touches s addr a) :
    (s.write addr v).read a = s.read a := by
  simp only [Touches, not_or] at h
  obtain ⟨-, hcell, hrom, hram⟩ := h
  rcases s.write_cases addr v with ⟨hr, he⟩ | ⟨hr, -⟩ | ⟨-, he⟩ | ⟨-, -, -, he⟩
  · rw [he]
    exact State.read_withCart _ (fun ha => hrom ⟨hr, .inl ha⟩) (fun ha => hrom ⟨hr, .inr ha⟩)
  · exact State.read_writeRam_other hr v fun ha c hc ht => hram ⟨hr, ha, c, hc, ht⟩
  · rw [he]
  · rw [he]
    exact State.read_withMem_write fun _ => hcell

/-- A write changes no field but the memory and the cartridge. -/
theorem State.write_changes_memory (s : State) (addr : Word) (v : Byte) :
    s.write addr v = { s with mem := (s.write addr v).mem, cart := (s.write addr v).cart } := by
  rcases s.write_cases addr v with ⟨-, he⟩ | ⟨-, he⟩ | ⟨-, he⟩ | ⟨-, -, -, he⟩ <;> rw [he]

/-! ## States with the same bus -/

/-- Two states in which everything a read depends on is the same. -/
def State.SameBus (s t : State) : Prop :=
  t.mem = s.mem ∧ t.cart = s.cart ∧ t.buttons = s.buttons ∧ t.draws = s.draws

theorem State.SameBus.read (h : s.SameBus t) (a : Word) : t.read a = s.read a :=
  have ⟨hmem, hcart, hbuttons, hdraws⟩ := h
  State.read_congr hmem hcart hbuttons hdraws a

theorem State.SameBus.sameMemory (h : s.SameBus t) : SameMemory s t := ⟨h.1, h.2.1, h.read⟩

/-- A state with the bus of one write has the frame of that write. -/
theorem storeFrame_of_sameBus {v : Byte} (h : (s.write addr v).SameBus t) : StoreFrame s t addr :=
  fun a ha => (h.read a).trans (State.read_write_of_not_touches v ha)

/-- A state with the bus of two writes has the frame of both. -/
theorem storeFrame2_of_sameBus {v w : Byte} (h : ((s.write a v).write b w).SameBus t) :
    StoreFrame2 s (s.write a v) t a b :=
  fun x hx hy => (storeFrame_of_sameBus h x hy).trans (State.read_write_of_not_touches v hx)

theorem storeFrame_of_finish {u : State} {n : Nat} {v : Byte} (h : u.finish n = .next t)
    (hu : (s.write addr v).SameBus u) : StoreFrame s t addr := by
  cases h
  exact storeFrame_of_sameBus hu

theorem storeFrame2_of_finish {u : State} {n : Nat} {v w : Byte} (h : u.finish n = .next t)
    (hu : ((s.write a v).write b w).SameBus u) : StoreFrame2 s (s.write a v) t a b := by
  cases h
  exact storeFrame2_of_sameBus hu

theorem State.push16_sameBus (s : State) (v : Word) :
    ((s.write (s.sp - 1) (hiByte v)).write (s.sp - 2) (loByte v)).SameBus (s.push16 v) := by
  rw [State.push16_eq]
  exact ⟨rfl, rfl, rfl, rfl⟩

theorem State.halt_sameBus (s : State) : s.SameBus s.halt := by
  unfold State.halt
  split <;> exact ⟨rfl, rfl, rfl, rfl⟩

/-- A transfer keeps the bus, taken or not, if taking it does. -/
theorem State.branch_sameBus {u : State} {taken : Bool} {n m : Nat}
    (h : s.branch taken u n m = .next t) (hu : s.SameBus u) : s.SameBus t := by
  rw [State.branch_eq] at h
  cases h
  cases taken with
  | true => exact hu
  | false => exact ⟨rfl, rfl, rfl, rfl⟩

/-! ## The storing forms: what each family executes -/

/-- The high page is 0xFF and the low byte (R308). -/
theorem highPage_eq (n : Byte) : highPage n = 0xFF#8 ++ n := by
  refine BitVec.eq_of_toNat_eq ?_
  rw [toNat_append]
  simp [highPage]
  omega

theorem State.cond_eq_true_iff (s : State) (cc : Cond) : s.cond cc = true ↔ cc.Holds s.f := by
  cases cc <;> simp [State.cond, Cond.Holds]

theorem exec_ldMemReg (r : Reg8) (s : State) : exec (ldMemReg r) s = (s.writeHl (s.reg r)).finish 8 := by
  cases r <;> rfl

theorem exec_pushPair (q : Qq) (s : State) : exec (pushPair q) s = (s.push16 (s.reg16 q.pair)).finish 16 := by
  cases q <;> rfl

theorem exec_shiftInstr_mhl (op : ShiftOp) (s : State) :
    ∃ o, exec (shiftInstr op .mhl) s = (s.shiftHl o).finish 16 := by
  cases op <;> exact ⟨_, rfl⟩

theorem exec_resInstr_mhl (b : Fin 8) (s : State) :
    exec (resInstr b .mhl) s = (s.writeHl (resetBit b s.readHl)).finish 16 := by
  fin_cases b <;> rfl

theorem exec_setInstr_mhl (b : Fin 8) (s : State) :
    exec (setInstr b .mhl) s = (s.writeHl (setBit b s.readHl)).finish 16 := by
  fin_cases b <;> rfl

theorem exec_callCond (nn : Word) (cc : Cond) (s : State) :
    exec (callCond nn cc) s = s.branch (s.cond cc) (s.call nn) 24 12 := by
  cases cc <;> rfl

theorem exec_callCond_taken (nn : Word) {cc : Cond} (h : cc.Holds s.f) :
    exec (callCond nn cc) s = (s.call nn).finish 24 := by
  rw [exec_callCond, (s.cond_eq_true_iff cc).2 h]
  rfl

theorem exec_callCond_notTaken (nn : Word) {cc : Cond} (h : ¬ cc.Holds s.f) :
    exec (callCond nn cc) s = s.finish 12 := by
  rw [exec_callCond, Bool.eq_false_iff.2 (mt (s.cond_eq_true_iff cc).1 h)]
  rfl

theorem exec_rstInstr (y : Fin 8) (s : State) : ∃ target, exec (rstInstr y) s = (s.call target).finish 16 := by
  fin_cases y <;> exact ⟨_, rfl⟩

/-! ## Which instructions store -/

theorem isStore_ldMemReg (r : Reg8) : IsStore (ldMemReg r) := by simp [IsStore]

theorem isStore_pushPair (q : Qq) : IsStore (pushPair q) := by simp [IsStore]

theorem isStore_shiftInstr (op : ShiftOp) : IsStore (shiftInstr op .mhl) := by
  have h : ∃ op', shiftInstr op .mhl = shiftInstr op' .mhl := ⟨op, rfl⟩
  simp [IsStore, h]

theorem isStore_resInstr (b : Fin 8) : IsStore (resInstr b .mhl) := by
  have h : ∃ b', resInstr b .mhl = resInstr b' .mhl := ⟨b, rfl⟩
  simp [IsStore, exists_or, h]

theorem isStore_setInstr (b : Fin 8) : IsStore (setInstr b .mhl) := by
  have h : ∃ b', setInstr b .mhl = setInstr b' .mhl := ⟨b, rfl⟩
  simp [IsStore, exists_or, h]

theorem isStore_callCond (nn : Word) (cc : Cond) : IsStore (callCond nn cc) := by
  have h : ∃ nn' cc', callCond nn cc = callCond nn' cc' := ⟨nn, cc, rfl⟩
  simp [IsStore, h]

theorem isStore_rstInstr (y : Fin 8) : IsStore (rstInstr y) := by simp [IsStore]

/-- An instruction that does not store leaves all of the bus alone. -/
theorem exec_isStore_or_sameBus {i : Instr} (h : exec i s = .next t) : IsStore i ∨ s.SameBus t := by
  cases i with
  | ld_mhl_n _ | ld_mbc_a | ld_mde_a | ld_mnn_a _ | ldh_mn_a _ | ld_mc_a | ld_mhli_a | ld_mhld_a | ld_mnn_sp _
  | call_nn _ | inc_mhl | dec_mhl =>
    exact .inl (by simp [IsStore, incInstr, decInstr])
  | ld_mhl_b => exact .inl (isStore_ldMemReg .b)
  | ld_mhl_c => exact .inl (isStore_ldMemReg .c)
  | ld_mhl_d => exact .inl (isStore_ldMemReg .d)
  | ld_mhl_e => exact .inl (isStore_ldMemReg .e)
  | ld_mhl_h => exact .inl (isStore_ldMemReg .h)
  | ld_mhl_l => exact .inl (isStore_ldMemReg .l)
  | ld_mhl_a => exact .inl (isStore_ldMemReg .a)
  | push_bc => exact .inl (isStore_pushPair .bc)
  | push_de => exact .inl (isStore_pushPair .de)
  | push_hl => exact .inl (isStore_pushPair .hl)
  | push_af => exact .inl (isStore_pushPair .af)
  | rlc_mhl => exact .inl (isStore_shiftInstr .rlc)
  | rrc_mhl => exact .inl (isStore_shiftInstr .rrc)
  | rl_mhl => exact .inl (isStore_shiftInstr .rl)
  | rr_mhl => exact .inl (isStore_shiftInstr .rr)
  | sla_mhl => exact .inl (isStore_shiftInstr .sla)
  | sra_mhl => exact .inl (isStore_shiftInstr .sra)
  | swap_mhl => exact .inl (isStore_shiftInstr .swap)
  | srl_mhl => exact .inl (isStore_shiftInstr .srl)
  | res_0_mhl => exact .inl (isStore_resInstr 0)
  | res_1_mhl => exact .inl (isStore_resInstr 1)
  | res_2_mhl => exact .inl (isStore_resInstr 2)
  | res_3_mhl => exact .inl (isStore_resInstr 3)
  | res_4_mhl => exact .inl (isStore_resInstr 4)
  | res_5_mhl => exact .inl (isStore_resInstr 5)
  | res_6_mhl => exact .inl (isStore_resInstr 6)
  | res_7_mhl => exact .inl (isStore_resInstr 7)
  | set_0_mhl => exact .inl (isStore_setInstr 0)
  | set_1_mhl => exact .inl (isStore_setInstr 1)
  | set_2_mhl => exact .inl (isStore_setInstr 2)
  | set_3_mhl => exact .inl (isStore_setInstr 3)
  | set_4_mhl => exact .inl (isStore_setInstr 4)
  | set_5_mhl => exact .inl (isStore_setInstr 5)
  | set_6_mhl => exact .inl (isStore_setInstr 6)
  | set_7_mhl => exact .inl (isStore_setInstr 7)
  | call_nz_nn nn => exact .inl (isStore_callCond nn .nz)
  | call_z_nn nn => exact .inl (isStore_callCond nn .z)
  | call_nc_nn nn => exact .inl (isStore_callCond nn .nc)
  | call_c_nn nn => exact .inl (isStore_callCond nn .c)
  | rst_00 => exact .inl (isStore_rstInstr 0)
  | rst_08 => exact .inl (isStore_rstInstr 1)
  | rst_10 => exact .inl (isStore_rstInstr 2)
  | rst_18 => exact .inl (isStore_rstInstr 3)
  | rst_20 => exact .inl (isStore_rstInstr 4)
  | rst_28 => exact .inl (isStore_rstInstr 5)
  | rst_30 => exact .inl (isStore_rstInstr 6)
  | rst_38 => exact .inl (isStore_rstInstr 7)
  | jr_nz_e _ | jr_z_e _ | jr_nc_e _ | jr_c_e _ | jp_nz_nn _ | jp_z_nn _ | jp_nc_nn _ | jp_c_nn _ | ret_nz | ret_z
  | ret_nc | ret_c =>
    exact .inr (State.branch_sameBus h ⟨rfl, rfl, rfl, rfl⟩)
  | halt =>
    cases h
    exact .inr s.halt_sameBus
  | _ =>
    cases h
    exact .inr ⟨rfl, rfl, rfl, rfl⟩

/-! ## What keeps the image and the header (R204) -/

/-- A ROM-only cartridge takes no command (R275). -/
theorem Cart.writeRom_romOnly {c : Cart} (h : c.ctrl = .romOnly) (n : Nat) (v : Byte) : c.writeRom n v = c := by
  unfold Cart.writeRom
  rw [h]

theorem State.write_identity (s : State) (addr : Word) (v : Byte) :
    (s.write addr v).cart.map Cart.identity = s.cart.map Cart.identity := by
  rcases s.write_cases addr v with ⟨-, he⟩ | ⟨-, he⟩ | ⟨-, he⟩ | ⟨-, -, -, he⟩ <;> rw [he] <;>
    cases s.cart <;> simp

theorem CpuEffect.identity {w : Prop} (h : CpuEffect w s t) :
    t.cart.map Cart.identity = s.cart.map Cart.identity := by
  induction h with
  | refl => rfl
  | write addr v _ ih => rw [State.write_identity, ih]
  | setReg r v _ ih => rwa [State.setReg_cart]
  | setReg16 r v _ ih => rwa [State.setReg16_cart]
  | setF _ _ ih | setIo _ _ _ _ ih | setControl _ _ _ _ _ _ _ _ ih | setHaltBug _ _ _ ih | setIme _ _ _ ih =>
    exact ih

end

/-! ## The obligations of 20_memory -/

/-- Settles O40: each row is its region, its key in memory and the reads and writes of that region. -/
theorem addressMap : Obligations.AddressMap := by
  intro s a v
  have ram {k : Nat} (h : IsRam a ∧ cellOf a = k) :
      s.read a = s.mem.read k ∧ s.write a v = { s with mem := s.mem.write k v } :=
    h.2 ▸ ⟨State.read_ram h.1 s, State.write_ram h.1 s v⟩
  refine ⟨fun h => ?_, fun h => ?_, fun h => ?_, fun h => ?_, fun h => ?_, fun h => ?_, fun h => ?_, fun h => ?_,
    fun h => ?_, fun h => ?_⟩
  · have hr : regionOf a = .rom := regionOf_eq h
    exact ⟨State.read_rom hr s, State.write_rom hr s v⟩
  · have hr : regionOf a = .vram := regionOf_eq h
    exact ram ⟨.inl hr, cellOf_own hr⟩
  · have hr : regionOf a = .extRam := regionOf_eq h
    exact ⟨State.read_extRam hr s, State.write_extRam hr s v⟩
  · have hr : regionOf a = .wram := regionOf_eq h
    exact ram ⟨by simp [IsRam, hr], cellOf_own hr⟩
  · have hr : regionOf a = .oam := regionOf_eq h
    exact ram ⟨by simp [IsRam, hr], cellOf_own hr⟩
  · exact ram (isRam_highPage h)
  · have hr : regionOf a = .echo := regionOf_eq h
    exact ram ⟨by simp [IsRam, hr], cellOf_echo hr⟩
  · have hr : regionOf a = .unusable := regionOf_eq h
    exact ⟨State.read_unusable hr s, State.write_unusable hr s v⟩
  · have hr : regionOf a = .joypad := regionOf_eq h
    exact ⟨State.read_joypad hr s, State.write_joypad hr s v⟩
  · have hr : regionOf a = .ie := regionOf_eq h
    exact ram ⟨by simp [IsRam, hr], cellOf_ie hr⟩

/-- Settles O42: both addresses are routed to the one memory, which reads after a write as `Memory.read_write` says. -/
theorem readsSeeTheLatestWrite : Obligations.ReadsSeeTheLatestWrite := by
  intro s a b v hmem ha
  rw [State.write_ram ha]
  refine ⟨fun hb hcell => ?_, fun hne => State.read_withMem_write fun hb hcell => hne ⟨hb, hcell⟩⟩
  rw [State.read_ram hb, hcell]
  exact Memory.read_write_same _ v hmem.1

/-- Settles O43: a bank command writes the controller's registers alone, and each step is an effect of the CPU and the
PPU's advance. -/
theorem romNeverChanges : Obligations.RomNeverChanges := by
  refine ⟨fun s a v h => ⟨?_, s.write_identity a v, fun c hc hro => ?_⟩, fun s t h => ?_⟩
  · exact State.write_rom (regionOf_eq h) s v
  · rw [State.write_rom (regionOf_eq h), hc, Option.map_some, Cart.writeRom_romOnly hro, ← hc]
  · obtain ⟨u, hu, rfl⟩ := step_cases h
    rw [State.closeFrame_cart, State.afterCpu_cart]
    exact (State.cpuStep_effect hu).1.identity

/-- Settles O41: each range by the reads and writes of its region; two addresses of one byte have one cell. -/
theorem specialRanges : Obligations.SpecialRanges := by
  intro s a v
  refine ⟨fun h => ?_, fun h b hb => ?_, fun h => ?_, ⟨?_, ?_, fun b => ?_⟩, fun k h0 h1 => ?_, ?_, fun hnone h => ?_⟩
  · have hr : regionOf a = .echo := regionOf_eq h
    have hbelow : (a - 0x2000#16).toNat = a.toNat - 0x2000 := by bv_omega
    have hr' : regionOf (a - 0x2000#16) = .wram := regionOf_eq (by simp only [Region.Spans]; omega)
    have ha : IsRam a := by simp [IsRam, hr]
    have ha' : IsRam (a - 0x2000#16) := by simp [IsRam, hr']
    have hcell : cellOf (a - 0x2000#16) = cellOf a := by rw [cellOf_own hr', cellOf_echo hr, hbelow]
    rw [State.read_ram ha, State.read_ram ha', State.write_ram ha, State.write_ram ha', hcell]
    exact ⟨rfl, rfl⟩
  · have hr : regionOf a = .wram := regionOf_eq ⟨by omega, h.2⟩
    rw [State.write_ram (by simp [IsRam, hr]), cellOf_own hr]
    refine State.read_withMem_write fun hram hcell => hb (BitVec.eq_of_toNat_eq ?_)
    have hcases := cellOf_cases hram
    omega
  · have hr : regionOf a = .unusable := regionOf_eq h
    exact ⟨State.read_unusable hr s, State.write_unusable hr s v⟩
  · exact State.read_joypad rfl s
  · exact State.write_joypad rfl s v
  · rw [State.write_joypad rfl]
    refine State.read_withMem_write fun hram hcell => ?_
    have hcases := cellOf_cases hram
    omega
  · have ha : (BitVec.ofNat 16 (0xFF00 + k)).toNat = 0xFF00 + k := by
      rw [BitVec.toNat_ofNat]
      omega
    obtain ⟨hr, hcell⟩ := isRam_highPage (a := BitVec.ofNat 16 (0xFF00 + k)) (by omega)
    rw [State.read_ram hr, State.write_ram hr, hcell, ha]
    exact ⟨rfl, rfl⟩
  · exact ⟨rfl, rfl, rfl, rfl⟩
  · rcases h with h | h
    · have hr : regionOf a = .rom := regionOf_eq h
      exact ⟨(State.read_rom hr s).trans (State.readCartRom_of_none hnone _),
        (State.write_rom hr s v).trans (State.mapCart_of_none hnone _)⟩
    · have hr : regionOf a = .extRam := regionOf_eq h
      exact ⟨(State.read_extRam hr s).trans (State.readCartRam_of_none hnone _ _),
        (State.write_extRam hr s v).trans (State.mapCart_of_none hnone _)⟩

/-- Settles O8: each storing form has the bus of its one or two writes, each other instruction that of the state before
it; what a write does not touch it leaves alone. -/
theorem storesTouchOnlyTheirBytes : Obligations.StoresTouchOnlyTheirBytes := by
  refine ⟨fun s addr v => ⟨fun a ha => State.read_write_of_not_touches v ha, s.write_changes_memory addr v⟩,
    fun s t r h => ?_, fun s t n h => ?_, fun s t h => ?_, fun s t h => ?_, fun s t nn h => ?_, fun s t n h => ?_,
    fun s t h => ?_, fun s t h => ?_, fun s t h => ?_, fun s t nn h => ?_, fun s t q h => ?_, fun s t h => ?_,
    fun s t op h => ?_, fun s t b h => ?_, fun s t nn h => ?_, fun s t nn cc hcc h => ?_, fun s t y h => ?_,
    fun i s t hi h => ?_, fun s t nn cc hcc h => ?_⟩
  · exact storeFrame_of_finish ((exec_ldMemReg r s).symm.trans h) ⟨rfl, rfl, rfl, rfl⟩
  · exact storeFrame_of_finish h ⟨rfl, rfl, rfl, rfl⟩
  · exact storeFrame_of_finish h ⟨rfl, rfl, rfl, rfl⟩
  · exact storeFrame_of_finish h ⟨rfl, rfl, rfl, rfl⟩
  · exact storeFrame_of_finish h ⟨rfl, rfl, rfl, rfl⟩
  · rw [← highPage_eq]
    exact storeFrame_of_finish h ⟨rfl, rfl, rfl, rfl⟩
  · rw [← highPage_eq]
    exact storeFrame_of_finish h ⟨rfl, rfl, rfl, rfl⟩
  · exact storeFrame_of_finish h ⟨rfl, rfl, rfl, rfl⟩
  · exact storeFrame_of_finish h ⟨rfl, rfl, rfl, rfl⟩
  · exact storeFrame2_of_finish h ⟨rfl, rfl, rfl, rfl⟩
  · exact storeFrame2_of_finish ((exec_pushPair q s).symm.trans h) (s.push16_sameBus _)
  · rcases h with h | h <;> exact storeFrame_of_finish h ⟨rfl, rfl, rfl, rfl⟩
  · obtain ⟨o, ho⟩ := exec_shiftInstr_mhl op s
    exact storeFrame_of_finish (ho.symm.trans h) ⟨rfl, rfl, rfl, rfl⟩
  · rw [exec_resInstr_mhl, exec_setInstr_mhl] at h
    rcases h with h | h <;> exact storeFrame_of_finish h ⟨rfl, rfl, rfl, rfl⟩
  · exact storeFrame2_of_finish h (s.push16_sameBus _)
  · exact storeFrame2_of_finish ((exec_callCond_taken nn hcc).symm.trans h) (s.push16_sameBus _)
  · obtain ⟨target, ht⟩ := exec_rstInstr y s
    exact storeFrame2_of_finish (ht.symm.trans h) (s.push16_sameBus _)
  · exact ((exec_isStore_or_sameBus h).resolve_left hi).sameMemory
  · rw [exec_callCond_notTaken nn hcc] at h
    cases h
    exact State.SameBus.sameMemory ⟨rfl, rfl, rfl, rfl⟩

end Sys2Proof.Machine

namespace Sys2Proof.Machine

/-! ## The bus in the cartridge's ranges (R270 to R272) -/

section

variable {s : State} {c : Cart} {a : Word}

theorem State.read_cartRom (hc : s.cart = some c) (ha : a.toNat < 0x8000) :
    s.read a = romByteAt c (c.romBank a.toNat) a := by
  rw [State.read_rom (regionOf_eq ha)]
  unfold State.readCartRom
  rw [hc]
  rfl

theorem State.write_cartRom (hc : s.cart = some c) (ha : a.toNat < 0x8000) (v : Byte) :
    s.write a v = { s with cart := some (c.writeRom a.toNat v) } := by
  rw [State.write_rom (regionOf_eq ha), hc, Option.map_some]

theorem State.read_cartRam (hc : s.cart = some c) (ha : 0xA000 ≤ a.toNat ∧ a.toNat < 0xC000) :
    s.read a = c.readRam (Config.rtcRead s.draws a) a.toNat := by
  rw [State.read_extRam (regionOf_eq ha)]
  unfold State.readCartRam
  rw [hc]

theorem State.write_cartRam (hc : s.cart = some c) (ha : 0xA000 ≤ a.toNat ∧ a.toNat < 0xC000) (v : Byte) :
    s.write a v = { s with cart := some (c.writeRam a.toNat v) } := by
  rw [State.write_extRam (regionOf_eq ha), hc, Option.map_some]

theorem State.withCart_self (hc : s.cart = some c) : { s with cart := some c } = s := by
  rw [← hc]

theorem State.withCtrl_self {k : Controller} (hc : s.cart = some c) (hk : c.ctrl = k) :
    { s with cart := some { c with ctrl := k } } = s := by
  rw [← hk]
  exact State.withCart_self hc

/-! ### The RAM window, by the controller's target -/

theorem State.ramWindow_nothing (hc : s.cart = some c) (ha : 0xA000 ≤ a.toNat ∧ a.toNat < 0xC000) (v : Byte)
    (ht : c.ramTarget a.toNat = .nothing) : s.read a = 0xFF#8 ∧ s.write a v = s := by
  rw [State.read_cartRam hc ha, State.write_cartRam hc ha]
  unfold Cart.readRam Cart.writeRam
  rw [ht]
  exact ⟨rfl, State.withCart_self hc⟩

theorem State.ramWindow_rtc (hc : s.cart = some c) (ha : 0xA000 ≤ a.toNat ∧ a.toNat < 0xC000) (v : Byte)
    (ht : c.ramTarget a.toNat = .rtc) : s.read a = Config.rtcRead s.draws a ∧ s.write a v = s := by
  rw [State.read_cartRam hc ha, State.write_cartRam hc ha]
  unfold Cart.readRam Cart.writeRam
  rw [ht]
  exact ⟨rfl, State.withCart_self hc⟩

theorem State.ramWindow_cell (hc : s.cart = some c) (ha : 0xA000 ≤ a.toNat ∧ a.toNat < 0xC000) (v : Byte)
    {off : Nat} (ht : c.ramTarget a.toNat = .cell off) :
    s.read a = c.ram.read off ∧ s.write a v = { s with cart := some { c with ram := c.ram.write off v } } := by
  rw [State.read_cartRam hc ha, State.write_cartRam hc ha]
  unfold Cart.readRam Cart.writeRam
  rw [ht]
  exact ⟨rfl, rfl⟩

theorem State.ramWindow_nibble (hc : s.cart = some c) (ha : 0xA000 ≤ a.toNat ∧ a.toNat < 0xC000) (v : Byte)
    {off : Nat} (ht : c.ramTarget a.toNat = .nibble off) :
    s.read a = 0xF0#8 ||| (c.ram.read off &&& 0x0F#8) ∧
    s.write a v = { s with cart := some { c with ram := c.ram.write off (v &&& 0x0F#8) } } := by
  rw [State.read_cartRam hc ha, State.write_cartRam hc ha]
  unfold Cart.readRam Cart.writeRam
  rw [ht]
  exact ⟨rfl, rfl⟩

theorem Cart.ramCell_without_ram (h : c.ramSize = 0) (rb n : Nat) : c.ramCell rb n = .nothing := if_pos h

theorem Cart.ramCell_with_ram (h : c.ramSize ≠ 0) (rb : Nat) (a : Word) :
    c.ramCell rb a.toNat = .cell (ramOffset c rb a) := if_neg h

/-- A bank of RAM: nothing where there is no RAM (R266), else the cell of the reduced offset (R265). -/
theorem State.ramWindow_bank (hc : s.cart = some c) (ha : 0xA000 ≤ a.toNat ∧ a.toNat < 0xC000) (v : Byte)
    {rb : Nat} (ht : c.ramTarget a.toNat = c.ramCell rb a.toNat) :
    (c.ramSize = 0 → s.read a = 0xFF#8 ∧ s.write a v = s) ∧
    (c.ramSize ≠ 0 → s.read a = c.ram.read (ramOffset c rb a) ∧
      s.write a v = { s with cart := some { c with ram := c.ram.write (ramOffset c rb a) v } }) :=
  ⟨fun h => State.ramWindow_nothing hc ha v (ht.trans (c.ramCell_without_ram h rb _)),
    fun h => State.ramWindow_cell hc ha v (ht.trans (c.ramCell_with_ram h rb a))⟩

/-- A bank of RAM behind a gate (R266). -/
theorem State.ramWindow_gated (hc : s.cart = some c) (ha : 0xA000 ≤ a.toNat ∧ a.toNat < 0xC000) (v : Byte)
    {rb : Nat} {gate : Bool} (ht : c.ramTarget a.toNat = if gate then c.ramCell rb a.toNat else .nothing) :
    (gate = false ∨ c.ramSize = 0 → s.read a = 0xFF#8 ∧ s.write a v = s) ∧
    (gate = true → c.ramSize ≠ 0 → s.read a = c.ram.read (ramOffset c rb a) ∧
      s.write a v = { s with cart := some { c with ram := c.ram.write (ramOffset c rb a) v } }) := by
  cases gate with
  | false => exact ⟨fun _ => State.ramWindow_nothing hc ha v ht, nofun⟩
  | true =>
    obtain ⟨without, within⟩ := State.ramWindow_bank hc ha v ht
    exact ⟨fun h => without (h.resolve_left nofun), fun _ => within⟩

end

/-! ## Register values as numbers -/

/-- R266. -/
theorem opensRamGate_eq (v : Byte) : opensRamGate v = decide (v.toNat % 16 = 10) := by
  simp [opensRamGate, ← BitVec.toNat_inj]

theorem zeroToOne_toNat {w : Nat} (b : BitVec (w + 1)) :
    (zeroToOne b).toNat = if b.toNat = 0 then 1 else b.toNat := by
  have hzero : b.toNat = 0 ↔ b = 0 := by simp [← BitVec.toNat_inj]
  unfold zeroToOne
  by_cases hb : b = 0
  · simp [hb]
  · rw [if_neg hb, if_neg (mt hzero.1 hb)]

/-- A bank field of the byte written, bank 0 becoming 1. -/
theorem zeroToOne_field_toNat (w : Nat) (v : Byte) :
    (zeroToOne (v.extractLsb' 0 (w + 1))).toNat =
      if v.toNat % 2 ^ (w + 1) = 0 then 1 else v.toNat % 2 ^ (w + 1) := by
  rw [zeroToOne_toNat]
  simp

theorem getLsbD_zero_eq (v : Byte) : v.getLsbD 0 = decide (v.toNat % 2 = 1) :=
  Nat.testBit_zero v.toNat

/-- Masking by `2 ^ n - 1` is reduction modulo `2 ^ n`. -/
theorem toNat_and_mask (v : Byte) {m : Byte} (n : Nat) (hm : m.toNat = 2 ^ n - 1) :
    (v &&& m).toNat = v.toNat % 2 ^ n := by
  rw [BitVec.toNat_and, hm, Nat.and_two_pow_sub_one_eq_mod]

theorem nibbleRead_toNat : ∀ x : Byte, (0xF0#8 ||| (x &&& 0x0F#8)).toNat = 0xF0 + x.toNat % 16 := by decide

/-! ## ROM-only (R275) and MBC2 (R280 to R282) -/

section

variable {c : Cart} {r : Mbc2} {n : Nat} {v : Byte}

theorem Cart.romBank_romOnly (h : c.ctrl = .romOnly) (n : Nat) : c.romBank n = n / 0x4000 := by
  unfold Cart.romBank
  rw [h]

theorem Cart.ramTarget_romOnly (h : c.ctrl = .romOnly) (n : Nat) : c.ramTarget n = c.ramCell 0 n := by
  unfold Cart.ramTarget
  rw [h]

theorem Cart.writeRom_of_mbc2 (h : c.ctrl = .mbc2 r) (n : Nat) (v : Byte) :
    c.writeRom n v = { c with ctrl := .mbc2 (r.write n v) } := by
  unfold Cart.writeRom
  rw [h]

theorem Cart.romBank_mbc2 (h : c.ctrl = .mbc2 r) (n : Nat) :
    c.romBank n = if n < 0x4000 then 0 else r.romb.toNat := by
  unfold Cart.romBank
  rw [h]

theorem Cart.ramTarget_mbc2 (h : c.ctrl = .mbc2 r) (n : Nat) :
    c.ramTarget n = if r.ramg then .nibble ((n - 0xA000) % 0x200) else .nothing := by
  unfold Cart.ramTarget
  rw [h]

theorem Mbc2.write_gate (h : n < 0x4000) (h8 : n / 256 % 2 = 0) :
    r.write n v = { r with ramg := decide (v.toNat % 16 = 10) } := by
  have hbit : n.testBit 8 = false := by simp [Nat.testBit_eq_decide_div_mod_eq, h8]
  unfold Mbc2.write
  rw [if_pos h, hbit, if_neg nofun, opensRamGate_eq]

theorem Mbc2.write_bank (h : n < 0x4000) (h8 : n / 256 % 2 = 1) :
    r.write n v = { r with romb := zeroToOne (v.extractLsb' 0 4) } := by
  have hbit : n.testBit 8 = true := by simp [Nat.testBit_eq_decide_div_mod_eq, h8]
  unfold Mbc2.write
  rw [if_pos h, if_pos hbit]

theorem Mbc2.write_ignored (h : 0x4000 ≤ n) : r.write n v = r := if_neg (by omega)

end

/-! ## MBC1 (R276 to R278) -/

section

variable {c : Cart} {r : Mbc1} {n : Nat} {v : Byte}

theorem Cart.writeRom_of_mbc1 (h : c.ctrl = .mbc1 r) (n : Nat) (v : Byte) :
    c.writeRom n v = { c with ctrl := .mbc1 (r.write n v) } := by
  unfold Cart.writeRom
  rw [h]

theorem Cart.romBank_mbc1 (h : c.ctrl = .mbc1 r) (n : Nat) :
    c.romBank n = if n < 0x4000 then (if r.mode = true then 32 * r.bank2.toNat else 0)
      else 32 * r.bank2.toNat + r.bank1.toNat := by
  unfold Cart.romBank
  rw [h, Nat.mul_comm 32]

theorem Cart.ramTarget_mbc1 (h : c.ctrl = .mbc1 r) (n : Nat) :
    c.ramTarget n = if r.ramg then c.ramCell (if r.mode = true then r.bank2.toNat else 0) n else .nothing := by
  unfold Cart.ramTarget
  rw [h]

theorem Mbc1.write_gate (h : n < 0x2000) : r.write n v = { r with ramg := decide (v.toNat % 16 = 10) } := by
  rw [← opensRamGate_eq]
  exact if_pos h

theorem Mbc1.write_bank1 (h : 0x2000 ≤ n ∧ n < 0x4000) :
    r.write n v = { r with bank1 := zeroToOne (v.extractLsb' 0 5) } := by
  unfold Mbc1.write
  rw [if_neg (by omega), if_pos h.2]

theorem Mbc1.write_bank2 (h : 0x4000 ≤ n ∧ n < 0x6000) : r.write n v = { r with bank2 := v.extractLsb' 0 2 } := by
  unfold Mbc1.write
  rw [if_neg (by omega), if_neg (by omega), if_pos h.2]

theorem Mbc1.write_mode (h : 0x6000 ≤ n) : r.write n v = { r with mode := decide (v.toNat % 2 = 1) } := by
  unfold Mbc1.write
  rw [if_neg (by omega), if_neg (by omega), if_neg (by omega), getLsbD_zero_eq]

end

/-! ## MBC3 (R284 to R286) -/

section

variable {c : Cart} {r : Mbc3} {n : Nat} {v : Byte}

theorem Cart.writeRom_of_mbc3 (h : c.ctrl = .mbc3 r) (n : Nat) (v : Byte) :
    c.writeRom n v = { c with ctrl := .mbc3 (r.write n v) } := by
  unfold Cart.writeRom
  rw [h]

theorem Cart.romBank_mbc3 (h : c.ctrl = .mbc3 r) (n : Nat) :
    c.romBank n = if n < 0x4000 then 0 else r.romb.toNat := by
  unfold Cart.romBank
  rw [h]

theorem Mbc3.write_gate (h : n < 0x2000) : r.write n v = { r with ramg := decide (v.toNat % 16 = 10) } := by
  rw [← opensRamGate_eq]
  exact if_pos h

theorem Mbc3.write_bank (h : 0x2000 ≤ n ∧ n < 0x4000) :
    r.write n v = { r with romb := zeroToOne (v.extractLsb' 0 7) } := by
  unfold Mbc3.write
  rw [if_neg (by omega), if_pos h.2]

theorem Mbc3.write_select (h : 0x4000 ≤ n ∧ n < 0x6000) : r.write n v = { r with rsel := v } := by
  unfold Mbc3.write
  rw [if_neg (by omega), if_neg (by omega), if_pos h.2]

theorem Mbc3.write_ignored (h : 0x6000 ≤ n) : r.write n v = r := by
  unfold Mbc3.write
  rw [if_neg (by omega), if_neg (by omega), if_neg (by omega)]

theorem Cart.ramTarget_mbc3_gateShut (h : c.ctrl = .mbc3 r) (hg : r.ramg = false) : c.ramTarget n = .nothing := by
  unfold Cart.ramTarget
  rw [h]
  exact if_neg (by simp [hg])

/-- Behind an open gate the selection leads to a bank of RAM, a clock register or nothing (R285). -/
theorem Cart.ramTarget_mbc3_gateOpen (h : c.ctrl = .mbc3 r) (hg : r.ramg = true) :
    c.ramTarget n = if r.rsel.toNat ≤ 3 then c.ramCell r.rsel.toNat n
      else if 8 ≤ r.rsel.toNat ∧ r.rsel.toNat ≤ 12 then .rtc else .nothing := by
  unfold Cart.ramTarget
  rw [h]
  exact if_pos hg

end

/-! ## MBC5 (R288 to R290) -/

section

variable {c : Cart} {r : Mbc5} {n : Nat} {v : Byte} {rumble : Bool}

theorem Cart.writeRom_of_mbc5 (h : c.ctrl = .mbc5 r) (n : Nat) (v : Byte) :
    c.writeRom n v = { c with ctrl := .mbc5 (r.write (isRumble c.typeCode) n v) } := by
  unfold Cart.writeRom
  rw [h]

theorem Cart.romBank_mbc5 (h : c.ctrl = .mbc5 r) (n : Nat) :
    c.romBank n = if n < 0x4000 then 0 else r.romb.toNat := by
  unfold Cart.romBank
  rw [h]

theorem Cart.ramTarget_mbc5 (h : c.ctrl = .mbc5 r) (n : Nat) :
    c.ramTarget n = if r.ramg then c.ramCell r.ramb.toNat n else .nothing := by
  unfold Cart.ramTarget
  rw [h]

theorem isRumble_iff (t : Byte) : isRumble t = true ↔ 0x1C ≤ t.toNat ∧ t.toNat ≤ 0x1E := by
  simp only [isRumble, Bool.or_eq_true, decide_eq_true_eq, ← BitVec.toNat_inj, BitVec.toNat_ofNat]
  omega

/-- A nine-bit bank is its bit 8 beside its low eight bits. -/
theorem toNat_or_of_disjoint {x y : BitVec 9} {hi : Nat} (hx : x.toNat = hi * 256) (hy : y.toNat < 256) :
    (x ||| y).toNat = hi * 256 + y.toNat := by
  rw [BitVec.toNat_or, hx, Nat.mul_comm, ← Nat.two_pow_add_eq_or_of_lt (i := 8) hy]

theorem bankHigh_toNat (b : BitVec 9) : (b &&& 0x100#9).toNat = b.toNat / 256 * 256 := by
  have hbit : b.toNat / 2 ^ 8 < 2 := by omega
  rw [BitVec.toNat_and]
  show b.toNat &&& 2 ^ 8 = b.toNat / 2 ^ 8 * 2 ^ 8
  rw [Nat.and_two_pow, Nat.toNat_testBit, Nat.mod_eq_of_lt hbit]

theorem bankLow_toNat (b : BitVec 9) : (b &&& 0x0FF#9).toNat = b.toNat % 256 := by
  rw [BitVec.toNat_and]
  exact Nat.and_two_pow_sub_one_eq_mod b.toNat 8

/-- The bank of which the low eight bits are written. -/
def Mbc5.withLow (r : Mbc5) (v : Byte) : BitVec 9 := (r.romb &&& 0x100#9) ||| v.setWidth 9

/-- The bank of which bit 8 is written. -/
def Mbc5.withHigh (r : Mbc5) (v : Byte) : BitVec 9 := (r.romb &&& 0x0FF#9) ||| ((v &&& 0x01#8).setWidth 9 <<< 8)

/-- The RAM bank a byte selects, three bits on a rumble board. -/
def Mbc5.ramBank (rumble : Bool) (v : Byte) : BitVec 4 :=
  if rumble then (v &&& 0x07#8).setWidth 4 else (v &&& 0x0F#8).setWidth 4

theorem Mbc5.withLow_toNat (r : Mbc5) (v : Byte) : (r.withLow v).toNat = r.romb.toNat / 256 * 256 + v.toNat := by
  have hv : (v.setWidth 9).toNat = v.toNat := by rw [BitVec.toNat_setWidth]; omega
  rw [← hv]
  exact toNat_or_of_disjoint (bankHigh_toNat r.romb) (by omega)

theorem Mbc5.withHigh_toNat (r : Mbc5) (v : Byte) :
    (r.withHigh v).toNat = v.toNat % 2 * 256 + r.romb.toNat % 256 := by
  have hbit : ((v &&& 0x01#8).setWidth 9 <<< 8).toNat = v.toNat % 2 * 256 := by
    rw [BitVec.toNat_shiftLeft, BitVec.toNat_setWidth, toNat_and_mask v 1 rfl, Nat.shiftLeft_eq]
    omega
  unfold Mbc5.withHigh
  rw [BitVec.or_comm, ← bankLow_toNat]
  exact toNat_or_of_disjoint hbit (by rw [bankLow_toNat]; omega)

theorem Mbc5.ramBank_toNat (rumble : Bool) (v : Byte) :
    (Mbc5.ramBank rumble v).toNat = v.toNat % (if rumble then 8 else 16) := by
  cases rumble with
  | true =>
    show ((v &&& 0x07#8).setWidth 4).toNat = v.toNat % 8
    rw [BitVec.toNat_setWidth, toNat_and_mask v 3 rfl]
    omega
  | false =>
    show ((v &&& 0x0F#8).setWidth 4).toNat = v.toNat % 16
    rw [BitVec.toNat_setWidth, toNat_and_mask v 4 rfl]
    omega

theorem Mbc5.write_gate (h : n < 0x2000) : r.write rumble n v = { r with ramg := decide (v.toNat % 16 = 10) } := by
  rw [← opensRamGate_eq]
  exact if_pos h

theorem Mbc5.write_bankLow (h : 0x2000 ≤ n ∧ n < 0x3000) :
    r.write rumble n v = { r with romb := r.withLow v } := by
  unfold Mbc5.write
  rw [if_neg (by omega), if_pos h.2]
  rfl

theorem Mbc5.write_bankHigh (h : 0x3000 ≤ n ∧ n < 0x4000) :
    r.write rumble n v = { r with romb := r.withHigh v } := by
  unfold Mbc5.write
  rw [if_neg (by omega), if_neg (by omega), if_pos h.2]
  rfl

theorem Mbc5.write_ramBank (h : 0x4000 ≤ n ∧ n < 0x6000) :
    r.write rumble n v = { r with ramb := Mbc5.ramBank rumble v } := by
  unfold Mbc5.write
  rw [if_neg (by omega), if_neg (by omega), if_neg (by omega), if_pos h.2]
  rfl

theorem Mbc5.write_ignored (h : 0x6000 ≤ n) : r.write rumble n v = r := by
  unfold Mbc5.write
  rw [if_neg (by omega), if_neg (by omega), if_neg (by omega), if_neg (by omega)]

end

/-! ## The obligations on the controllers and their banks -/

/-- Settles O44: each range is a command or a bank of the controller; MBC2's address bit 8 selects which register a
command writes, and its cells take and show four bits. -/
theorem romOnlyAndMbc2 : Obligations.RomOnlyAndMbc2 := by
  refine ⟨fun s c a v hc hr => ⟨fun h => ⟨?_, ?_⟩, fun h => ?_⟩, fun s c r a v hc hr => ?_⟩
  · rw [State.read_cartRom hc h, Cart.romBank_romOnly hr]
  · rw [State.write_cartRom hc h, Cart.writeRom_romOnly hr]
    exact State.withCart_self hc
  · have hoff : ramOffset c 0 a = (a.toNat - 0xA000) % c.ramSize := by simp [ramOffset]
    exact hoff ▸ State.ramWindow_bank hc h v (Cart.ramTarget_romOnly hr _)
  · have command (ha : a.toNat < 0x8000) :
        s.write a v = { s with cart := some { c with ctrl := .mbc2 (r.write a.toNat v) } } := by
      rw [State.write_cartRom hc ha, Cart.writeRom_of_mbc2 hr]
    refine ⟨fun h h8 => ?_, fun h h8 => ?_, fun h => ?_, fun h => ?_, fun h => ?_,
      fun h => ⟨fun hg => ?_, fun hg => ?_⟩⟩
    · rw [command (by omega), Mbc2.write_gate h h8]
    · exact ⟨_, zeroToOne_field_toNat 3 v, by rw [command (by omega), Mbc2.write_bank h h8]⟩
    · rw [command h.2, Mbc2.write_ignored h.1, State.withCtrl_self hc hr]
    · rw [State.read_cartRom hc (by omega), Cart.romBank_mbc2 hr, if_pos h]
    · rw [State.read_cartRom hc h.2, Cart.romBank_mbc2 hr, if_neg (by omega)]
    · exact State.ramWindow_nothing hc h v (by rw [Cart.ramTarget_mbc2 hr, hg]; rfl)
    · obtain ⟨hread, hwrite⟩ := State.ramWindow_nibble hc h v ((Cart.ramTarget_mbc2 hr _).trans (if_pos hg))
      exact ⟨hread ▸ nibbleRead_toNat _, _, toNat_and_mask v 4 rfl, hwrite⟩

/-- Settles O45: each range of commands is one of the four registers, and the RAM is one bank behind the gate. -/
theorem mbc1Controller : Obligations.Mbc1Controller := by
  intro s c r a v hc hr
  have command (ha : a.toNat < 0x8000) :
      s.write a v = { s with cart := some { c with ctrl := .mbc1 (r.write a.toNat v) } } := by
    rw [State.write_cartRom hc ha, Cart.writeRom_of_mbc1 hr]
  refine ⟨fun h => ?_, fun h => ?_, fun h => ?_, fun h => ?_, fun h => ?_, fun h => ?_, fun h => ?_⟩
  · rw [command (by omega), Mbc1.write_gate h]
  · exact ⟨_, zeroToOne_field_toNat 4 v, by rw [command (by omega), Mbc1.write_bank1 h]⟩
  · exact ⟨v.extractLsb' 0 2, by simp, by rw [command (by omega), Mbc1.write_bank2 h]⟩
  · rw [command h.2, Mbc1.write_mode h.1]
  · rw [State.read_cartRom hc (by omega), Cart.romBank_mbc1 hr, if_pos h]
  · rw [State.read_cartRom hc h.2, Cart.romBank_mbc1 hr, if_neg (by omega)]
  · exact State.ramWindow_gated hc h v (Cart.ramTarget_mbc1 hr _)

/-- Settles O46: as for MBC1, with the selection of the RAM window split into banks, clock registers and the rest. -/
theorem mbc3Controller : Obligations.Mbc3Controller := by
  intro s c r a v hc hr
  have command (ha : a.toNat < 0x8000) :
      s.write a v = { s with cart := some { c with ctrl := .mbc3 (r.write a.toNat v) } } := by
    rw [State.write_cartRom hc ha, Cart.writeRom_of_mbc3 hr]
  refine ⟨fun h => ?_, fun h => ?_, fun h => ?_, fun h => ?_, fun h => ?_, fun h => ?_, fun h => ⟨fun hg => ?_,
    fun hg hsel => ?_, fun hg hsel => ?_, fun hg hsel => ?_, fun hg hsel => ?_⟩⟩
  · rw [command (by omega), Mbc3.write_gate h]
  · exact ⟨_, zeroToOne_field_toNat 6 v, by rw [command (by omega), Mbc3.write_bank h]⟩
  · rw [command (by omega), Mbc3.write_select h]
  · rw [command h.2, Mbc3.write_ignored h.1, State.withCtrl_self hc hr]
  · rw [State.read_cartRom hc (by omega), Cart.romBank_mbc3 hr, if_pos h]
  · rw [State.read_cartRom hc h.2, Cart.romBank_mbc3 hr, if_neg (by omega)]
  · exact State.ramWindow_nothing hc h v (Cart.ramTarget_mbc3_gateShut hr hg)
  · exact (State.ramWindow_bank hc h v ((Cart.ramTarget_mbc3_gateOpen hr hg).trans (if_pos hsel))).1
  · exact (State.ramWindow_bank hc h v ((Cart.ramTarget_mbc3_gateOpen hr hg).trans (if_pos hsel))).2
  · exact State.ramWindow_rtc hc h v (by rw [Cart.ramTarget_mbc3_gateOpen hr hg, if_neg (by omega), if_pos hsel])
  · exact State.ramWindow_nothing hc h v
      (by rw [Cart.ramTarget_mbc3_gateOpen hr hg, if_neg (by omega), if_neg (by omega)])

/-- Settles O47: as for MBC1, with the nine-bit bank put together from its two writes. -/
theorem mbc5Controller : Obligations.Mbc5Controller := by
  intro s c r a v hc hr
  have command (ha : a.toNat < 0x8000) :
      s.write a v = { s with cart := some { c with ctrl := .mbc5 (r.write (isRumble c.typeCode) a.toNat v) } } := by
    rw [State.write_cartRom hc ha, Cart.writeRom_of_mbc5 hr]
  refine ⟨fun h => ?_, fun h => ?_, fun h => ?_, fun h => ?_, fun h => ?_, fun h => ?_, fun h => ?_, fun h => ?_⟩
  · rw [command (by omega), Mbc5.write_gate h]
  · exact ⟨_, r.withLow_toNat v, by rw [command (by omega), Mbc5.write_bankLow h]⟩
  · exact ⟨_, r.withHigh_toNat v, by rw [command (by omega), Mbc5.write_bankHigh h]⟩
  · refine ⟨Mbc5.ramBank (isRumble c.typeCode) v, ?_, by rw [command (by omega), Mbc5.write_ramBank h]⟩
    rw [Mbc5.ramBank_toNat]
    simp only [isRumble_iff]
  · rw [command h.2, Mbc5.write_ignored h.1, State.withCtrl_self hc hr]
  · rw [State.read_cartRom hc (by omega), Cart.romBank_mbc5 hr, if_pos h]
  · rw [State.read_cartRom hc h.2, Cart.romBank_mbc5 hr, if_neg (by omega)]
  · exact State.ramWindow_gated hc h v (Cart.ramTarget_mbc5 hr _)

/-- Settles O48: the bank count is a power of two, so masking is reduction; a target is reduced by the RAM size, and
MBC2's is 512. -/
theorem banksWithinTheCartridge : Obligations.BanksWithinTheCartridge := by
  intro c a hok
  obtain ⟨k, hk⟩ := hok.banks
  have hmask : c.romBank a &&& (c.romBanks - 1) = c.romBank a % c.romBanks := by
    rw [hk, Nat.and_two_pow_sub_one_eq_mod]
  refine ⟨by rw [hmask]; rfl, hmask, Nat.mod_lt _ (by rw [hk]; exact Nat.two_pow_pos _), fun off hoff => ?_⟩
  rcases hoff with hcell | hnibble
  · exact (Cart.cell_lt hcell).1
  · obtain ⟨r, hr, hlt⟩ := Cart.mbc2_of_nibble hnibble
    rw [(hok.mbc2 r hr).1]
    exact hlt

/-! ## Loading an image -/

/-! ### The bank count of an image (R256) -/

theorem mul_two_pow_succ (n k : Nat) : n * 2 ^ (k + 1) = 2 * n * 2 ^ k := by
  rw [Nat.pow_succ']
  ac_rfl

theorem doubleUntil_eq_mul_two_pow (fuel need n : Nat) : ∃ k, doubleUntil fuel need n = n * 2 ^ k := by
  induction fuel generalizing n with
  | zero => exact ⟨0, (Nat.mul_one n).symm⟩
  | succ fuel ih =>
    unfold doubleUntil
    split
    · exact ⟨0, (Nat.mul_one n).symm⟩
    · obtain ⟨k, hk⟩ := ih (2 * n)
      exact ⟨k + 1, by rw [hk, mul_two_pow_succ]⟩

/-- The search ends at a large enough number if its doublings reach one. -/
theorem le_doubleUntil {fuel need n : Nat} (h : need ≤ n * 2 ^ fuel) : need ≤ doubleUntil fuel need n := by
  induction fuel generalizing n with
  | zero => simpa [doubleUntil] using h
  | succ fuel ih =>
    unfold doubleUntil
    split
    next hn => exact hn
    next => exact ih (by rwa [mul_two_pow_succ] at h)

/-- No smaller one of the numbers tried is large enough. -/
theorem doubleUntil_le {fuel need n k : Nat} (h : need ≤ n * 2 ^ k) : doubleUntil fuel need n ≤ n * 2 ^ k := by
  induction fuel generalizing n k with
  | zero => exact Nat.le_mul_of_pos_right n (Nat.two_pow_pos k)
  | succ fuel ih =>
    unfold doubleUntil
    split
    next => exact Nat.le_mul_of_pos_right n (Nat.two_pow_pos k)
    next hn =>
      cases k with
      | zero => exact absurd (by simpa using h) hn
      | succ k =>
        rw [mul_two_pow_succ] at h ⊢
        exact ih h

theorem romBanksOf_code {code : Byte} (h : code.toNat ≤ 8) (len : Nat) : romBanksOf code len = 2 * 2 ^ code.toNat :=
  if_pos h

/-- Outside the table of codes: the smallest power of two, from 2 on, of banks that hold the image. -/
theorem romBanksOf_length {code : Byte} (h : code.toNat > 8) (len : Nat) :
    (∃ k, romBanksOf code len = 2 ^ (k + 1)) ∧ len ≤ romBanksOf code len * 0x4000 ∧
      ∀ k, len ≤ 2 ^ (k + 1) * 0x4000 → romBanksOf code len ≤ 2 ^ (k + 1) := by
  have heq : romBanksOf code len = doubleUntil ((len + 0x3FFF) / 0x4000) ((len + 0x3FFF) / 0x4000) 2 :=
    if_neg (Nat.not_le.2 h)
  rw [heq]
  refine ⟨?_, ?_, fun k hk => ?_⟩
  · obtain ⟨k, hk⟩ := doubleUntil_eq_mul_two_pow ((len + 0x3FFF) / 0x4000) ((len + 0x3FFF) / 0x4000) 2
    exact ⟨k, by rw [hk, Nat.pow_succ']⟩
  · have hreach : (len + 0x3FFF) / 0x4000 ≤ 2 * 2 ^ ((len + 0x3FFF) / 0x4000) := by
      have := Nat.lt_two_pow_self (n := (len + 0x3FFF) / 0x4000)
      omega
    have := le_doubleUntil hreach
    omega
  · rw [Nat.pow_succ'] at hk ⊢
    exact doubleUntil_le (by omega)

/-! ### The type code and the RAM code (R255, R257, R291) -/

theorem supportedType_iff : ∀ t : Byte, supportedType t = true ↔ t.toNat ∈ supportedCodes := by decide

theorem controllerOf_eq : ∀ t : Byte, controllerOf t = powerOnController t.toNat := by decide

/-- The table of R257; type code 0x00 is supported and not MBC2, so its RAM is that of the RAM code. -/
theorem ramSizeOf_eq : ∀ r : Byte, ramSizeOf r = ramSizeByHeader 0x00 r.toNat := by decide

theorem ramSizeByHeader_mbc2 {t r : Nat} (ht : t ∈ [0x05, 0x06]) : ramSizeByHeader t r = 512 := if_pos ht

theorem ramSizeByHeader_unsupported {t r : Nat} (ht : t ∉ [0x05, 0x06]) (hs : t ∉ supportedCodes) :
    ramSizeByHeader t r = 0 := by
  unfold ramSizeByHeader
  rw [if_neg ht, if_pos hs]

/-- All supported types but MBC2 have the RAM of the RAM code. -/
theorem ramSizeByHeader_supported {t r : Nat} (ht : t ∉ [0x05, 0x06]) (hs : t ∈ supportedCodes) :
    ramSizeByHeader t r = ramSizeByHeader 0x00 r := by
  unfold ramSizeByHeader
  rw [if_neg ht, if_neg (not_not.2 hs)]
  rfl

/-- A cartridge has the RAM that the codes of its header say (R257, R281; log entry 14). -/
theorem cartRamSize_eq (t r : Byte) : cartRamSize t r = ramSizeByHeader t.toNat r.toNat := by
  have hmbc2 : (t = 0x05#8 ∨ t = 0x06#8) ↔ t.toNat ∈ [0x05, 0x06] := by simp [← BitVec.toNat_inj]
  unfold cartRamSize
  by_cases ht : t = 0x05#8 ∨ t = 0x06#8
  · rw [if_pos ht, ramSizeByHeader_mbc2 (hmbc2.1 ht)]
  by_cases hs : supportedType t = true
  · rw [if_neg ht, if_pos hs, ramSizeOf_eq, ← ramSizeByHeader_supported (mt hmbc2.2 ht) ((supportedType_iff t).1 hs)]
  · rw [if_neg ht, if_neg hs, ramSizeByHeader_unsupported (mt hmbc2.2 ht) (mt (supportedType_iff t).2 hs)]

/-! ### The title (R253) -/

theorem titleOf_cut (bytes : List Byte) :
    ∃ rest, (bytes.drop 0x134).take (if (bytes.getD 0x143 0).getLsbD 7 = true then 15 else 16) =
        titleOf bytes ++ rest ∧ 0x00#8 ∉ titleOf bytes ∧ (rest = [] ∨ rest.head? = some 0x00#8) := by
  refine ⟨_, List.takeWhile_append_dropWhile.symm, fun h => ?_, ?_⟩
  · simpa using List.mem_takeWhile_imp h
  · rw [← List.head?_eq_none_iff, ← List.find?_not_eq_head?_dropWhile]
    cases hfirst : List.find? _ _ with
    | none => exact .inl rfl
    | some x =>
      have hzero : x = 0x00#8 := by simpa using List.find?_some hfirst
      exact .inr (congrArg some hzero)

/-! ### The cartridge an image makes -/

/-- The cartridge of an image that holds a header. -/
def Cart.fromImage (bytes : List Byte) : Cart where
  title := titleOf bytes
  typeCode := bytes.getD 0x147 0
  romCode := bytes.getD 0x148 0
  ramCode := bytes.getD 0x149 0
  cgb := (bytes.getD 0x143 0).getLsbD 7
  romBanks := romBanksOf (bytes.getD 0x148 0) bytes.length
  ramSize := cartRamSize (bytes.getD 0x147 0) (bytes.getD 0x149 0)
  supported := supportedType (bytes.getD 0x147 0)
  len := bytes.length
  img := Memory.ofBytes 0 bytes
  ram := []
  ctrl := controllerOf (bytes.getD 0x147 0)

section

variable {bytes : List Byte}

theorem Cart.ofImage_short (h : bytes.length < 0x150) : Cart.ofImage bytes = .error (.imageTooShort bytes.length) :=
  if_pos h

theorem Cart.ofImage_long (h : 0x150 ≤ bytes.length) : Cart.ofImage bytes = .ok (Cart.fromImage bytes) :=
  if_neg (Nat.not_lt.2 h)

/-- The image is shown byte for byte, and 0xFF beyond it (R263). -/
theorem Cart.romByte_fromImage (bytes : List Byte) (b o : Nat) :
    (Cart.fromImage bytes).romByte b o = (bytes[b * 0x4000 + o]?).getD 0xFF#8 := by
  unfold Cart.romByte
  by_cases h : b * 0x4000 + o < bytes.length
  · have hread := Memory.read_ofBytes 0 bytes _ h
    rw [Nat.zero_add] at hread
    rw [List.getElem?_eq_getElem h, Option.getD_some, ← hread]
    exact if_pos h
  · rw [List.getElem?_eq_none (Nat.not_lt.1 h), Option.getD_none]
    exact if_neg h

theorem State.loadRom_short (h : bytes.length < 0x150) (s : State) :
    s.loadRom bytes = .error (.imageTooShort bytes.length) := by
  unfold State.loadRom
  rw [Cart.ofImage_short h]

/-- R903: a load is the new cartridge, at power-on already, and a reset. -/
theorem State.loadRom_long (h : 0x150 ≤ bytes.length) (s : State) :
    s.loadRom bytes = .ok { s.resetMachine with cart := some (Cart.fromImage bytes) } := by
  unfold State.loadRom
  rw [Cart.ofImage_long h]
  rfl

end

theorem State.resetMachine_cart {s : State} {c : Cart} (hc : s.cart = some c) :
    s.resetMachine.cart = some { c with ctrl := powerOnController c.typeCode.toNat } := by
  rw [← controllerOf_eq]
  unfold State.resetMachine
  rw [hc]
  rfl

/-- Settles O49: a load makes `Cart.fromImage` and resets; its fields follow the header's codes by the lemmas above. -/
theorem loadingAnImage : Obligations.LoadingAnImage := by
  intro s bytes
  refine ⟨fun h => State.loadRom_short h s, fun h => ⟨Cart.fromImage bytes, State.loadRom_long h s, rfl,
    fun b o _ => Cart.romByte_fromImage bytes b o, titleOf_cut bytes, rfl, fun hcode => romBanksOf_code hcode _,
    fun hcode => romBanksOf_length hcode _, cartRamSize_eq _ _, fun _ => rfl, rfl, supportedType_iff _,
    controllerOf_eq _⟩, fun c hc => State.resetMachine_cart hc⟩

end Sys2Proof.Machine

namespace Sys2Proof.Machine

/-! ## Decoding a string of bytes

`decode` reads a first byte, checks the length and leaves the rest to `decode3`; `encode_decode3` is one direction of
the round trip and `decode3_encode` the other. -/

section

variable {b : Byte} {bytes tail rest : List Byte} {i : Instr}

/-- Enough bytes for the first one's length are an instruction and what follows it. -/
theorem decode_cons_of_le (h : opcodeLength b ≤ tail.length + 1) :
    decode (b :: tail) = .ok (decode3 b (tail.getD 0 0) (tail.getD 1 0), tail.drop (opcodeLength b - 1)) :=
  if_neg (Nat.not_lt.2 h)

theorem decode_cons_of_lt (h : tail.length + 1 < opcodeLength b) :
    decode (b :: tail) = .error (.truncated (opcodeLength b)) :=
  if_pos h

/-- What `decode` accepts begins with a byte whose length is there. -/
theorem decode_eq_ok (h : decode bytes = .ok (i, rest)) :
    ∃ b tail, bytes = b :: tail ∧ opcodeLength b ≤ tail.length + 1 ∧
      i = decode3 b (tail.getD 0 0) (tail.getD 1 0) ∧ rest = tail.drop (opcodeLength b - 1) := by
  cases bytes with
  | nil => cases h
  | cons b tail =>
    by_cases hlen : tail.length + 1 < opcodeLength b
    · rw [decode_cons_of_lt hlen] at h
      cases h
    · rw [decode_cons_of_le (Nat.not_lt.1 hlen)] at h
      cases h
      exact ⟨b, tail, rfl, Nat.not_lt.1 hlen, rfl, rfl⟩

theorem opcodeLength_le (b : Byte) : opcodeLength b ≤ 3 := by
  rcases opcodeLength_cases b with h | h | h <;> omega

theorem exists_append_eq (nn : Word) : ∃ hi lo : Byte, hi ++ lo = nn := ⟨_, _, append_extract nn⟩

theorem length_encode_decode3 (b b1 b2 : Byte) : (encode (decode3 b b1 b2)).length = opcodeLength b := by
  rw [encode_decode3]
  exact List.length_take_of_le (opcodeLength_le b)

/-- The bytes of an instruction, read as three with zeros after them, decode to it: the table's row holds the
instruction, and a 16-bit operand is put together again from its two bytes (R302, R312, R313). -/
theorem decode3_encode (i : Instr) :
    decode3 ((encode i).getD 0 0) ((encode i).getD 1 0) ((encode i).getD 2 0) = i := by
  cases i with
  | ld_bc_nn nn | ld_de_nn nn | ld_hl_nn nn | ld_sp_nn nn | ld_mnn_sp nn | ld_mnn_a nn | ld_a_mnn nn | jp_nn nn
  | jp_nz_nn nn | jp_z_nn nn | jp_nc_nn nn | jp_c_nn nn | call_nn nn | call_nz_nn nn | call_z_nn nn | call_nc_nn nn
  | call_c_nn nn =>
    obtain ⟨hi, lo, rfl⟩ := exists_append_eq nn
    unfold encode
    simp only [immediateBytes, loByte_append, hiByte_append, List.getD_cons_zero, List.getD_cons_succ]
    rfl
  | ld_b_n n | ld_c_n n | ld_d_n n | ld_e_n n | ld_h_n n | ld_l_n n | ld_a_n n | ld_mhl_n n | ldh_mn_a n | ldh_a_mn n
  | add_a_n n | adc_a_n n | sub_n n | sbc_a_n n | and_n n | xor_n n | or_n n | cp_n n | add_sp_e n | ld_hl_sp_e n
  | jr_e n | jr_nz_e n | jr_z_e n | jr_nc_e n | jr_c_e n | stop n =>
    unfold encode
    simp only [List.getD_cons_zero, List.getD_cons_succ]
    rfl
  | _ => rfl

/-- An instruction is what three bytes decode to, and its encoding is as many of them as the first one says. -/
theorem exists_decode3 (i : Instr) :
    ∃ b b1 b2, decode3 b b1 b2 = i ∧ encode i = [b, b1, b2].take (opcodeLength b) := by
  refine ⟨_, _, _, decode3_encode i, ?_⟩
  rw [← encode_decode3, decode3_encode]

/-- The bytes after an instruction do not change what it decodes to. -/
theorem decode_take_append (b b1 b2 : Byte) (rest : List Byte) :
    decode ([b, b1, b2].take (opcodeLength b) ++ rest) = .ok (decode3 b b1 b2, rest) := by
  rcases opcodeLength_cases b with h | h | h <;> rw [h] <;> refine (decode_cons_of_le (by simp [h])).trans ?_ <;> rw [h]
  · exact congrArg (fun i => Except.ok (i, rest)) ((decode3_one h _ _).trans (decode3_one h b1 b2).symm)
  · exact congrArg (fun i => Except.ok (i, rest)) ((decode3_two h b1 _).trans (decode3_two h b1 b2).symm)
  · rfl

/-- The bytes that `decode` reads and the ones it leaves are the string. -/
theorem take_bytes_append_drop (h : opcodeLength b ≤ tail.length + 1) :
    [b, tail.getD 0 0, tail.getD 1 0].take (opcodeLength b) ++ tail.drop (opcodeLength b - 1) = b :: tail := by
  rcases opcodeLength_cases b with hn | hn | hn <;> rw [hn] at h ⊢
  · rfl
  · match tail, h with
    | _ :: _, _ => rfl
  · match tail, h with
    | _ :: _ :: _, _ => rfl

/-- The two transcriptions of R303 agree: one lists first bytes, the other their values. -/
theorem lengthByFirstByte_eq (b : Byte) : lengthByFirstByte b = opcodeLength b := by
  have hmem : ∀ l : List Byte, b.toNat ∈ l.map BitVec.toNat ↔ b ∈ l := fun l =>
    List.mem_map_of_injective BitVec.toNat_injective
  exact if_congr (hmem threeByteOpcodes) rfl (if_congr (hmem twoByteOpcodes) rfl rfl)

end

/-! ## The obligations on decoding -/

/-- Settles O1: an instruction is what its bytes decode to, and one with fewer than three bytes ignores the rest. -/
theorem decodeEncode : Obligations.DecodeEncode := by
  intro i rest
  obtain ⟨b, b1, b2, hi, henc⟩ := exists_decode3 i
  rw [henc, decode_take_append, hi]

/-- Settles O2: what is decoded encodes to the bytes read, `encode_decode3`, and the rest is what was not read. -/
theorem encodeDecode : Obligations.EncodeDecode := by
  intro bytes i rest h
  obtain ⟨b, tail, rfl, hlen, rfl, rfl⟩ := decode_eq_ok h
  rw [encode_decode3, take_bytes_append_drop hlen]

/-- Settles O3: `opcodeLength` is the length R303 lists, and `decode` goes by it. -/
theorem firstByteGivesLength : Obligations.FirstByteGivesLength := by
  refine ⟨fun i => ?_, fun b tail h => ?_, fun b tail h => ?_⟩
  · obtain ⟨b, b1, b2, -, henc⟩ := exists_decode3 i
    refine ⟨b, [b1, b2].take (opcodeLength b - 1), ?_⟩
    rw [henc, lengthByFirstByte_eq]
    rcases opcodeLength_cases b with h | h | h <;> rw [h] <;> exact ⟨rfl, rfl⟩
  · rw [lengthByFirstByte_eq] at h ⊢
    exact ⟨_, decode_cons_of_le h⟩
  · rw [lengthByFirstByte_eq] at h ⊢
    exact decode_cons_of_lt h

/-! ## A step that runs an instruction -/

section

variable {s : State} {i : Instr} {rest : List Byte}

@[simp] theorem thenState_thenState (r : Result) (k l : State → State) :
    thenState (thenState r k) l = thenState r fun t => l (k t) := by
  cases r <;> rfl

/-- R800 (d): with nothing to dispatch and no idle slot, the CPU runs one instruction, awake. -/
theorem State.cpuStep_runs (hs : s.stopped = false) (hp : s.ime = true → s.pending = 0)
    (hh : s.halted = true → s.pending ≠ 0) : s.cpuStep = { s with halted := false }.runInstr := by
  have hnone : (if s.ime then lowestBit s.pending else none) = none := by
    split
    next him => exact (lowestBit_pending_none s).2 (hp him)
    next => rfl
  unfold State.cpuStep
  rw [if_neg (by simp [hs]), hnone]
  by_cases h : s.halted = true
  · exact (if_pos h).trans (if_neg (hh h))
  · have awake : { s with halted := false } = s := by rw [← Bool.eq_false_iff.2 h]
    rw [awake]
    exact if_neg h

/-- Awake, the fetch takes the instruction that the bytes at the pc decode to and leaves the pc past it (R301). -/
theorem State.fetchInstr_wake_eq (h : decode (bytesToFetch s) = .ok (i, rest)) :
    { s with halted := false }.fetchInstr = (i, afterFetch s i) := by
  have hlen := opcodeLength_le (s.readAt (s.draws + 1) s.pc)
  rw [bytesToFetch, decode_cons_of_le hlen] at h
  cases h
  rw [State.fetchInstr_eq, afterFetch, length_encode_decode3]
  rfl

/-- The EI delay, the PPU's advance, the counters and the budget are `endOfPass`. -/
theorem closeFrame_afterCpu_applyEiDelay (pend : Bool) (t : State) :
    (t.applyEiDelay pend).afterCpu.closeFrame = endOfPass pend t := by
  have hei : t.applyEiDelay pend =
      if pend = true ∧ t.eiPending = true then { t with ime := true, eiPending := false } else t := by
    simp [State.applyEiDelay]
  rw [State.closeFrame_afterCpu, endOfPass, ← hei]
  simp only [State.advance_frameAcc, State.advance_cycleCount]
  rfl

end

/-- Settles O30: the pass runs the fetched instruction, and what follows `exec` in it is `endOfPass`. -/
theorem stepRunsDecodedInstruction : Obligations.StepRunsDecodedInstruction := by
  intro s i rest hs hp hh hdec
  calc step s
      = thenState (thenState s.cpuStep State.afterCpu) State.closeFrame := rfl
    _ = thenState (thenState (thenState (exec i (afterFetch s i)) (·.applyEiDelay s.eiPending)) State.afterCpu)
          State.closeFrame := by
        rw [State.cpuStep_runs hs hp hh, State.runInstr, State.fetchInstr_wake_eq hdec]
    _ = thenState (exec i (afterFetch s i)) (endOfPass s.eiPending) := by
        simp only [thenState_thenState, closeFrame_afterCpu_applyEiDelay]

end Sys2Proof.Machine

namespace Sys2Proof.Machine

/-! ## The 8-bit loads and stores (40_loads8) -/

/-! ### LD r,r', LD r,n and LD r,(HL): what each family executes, and its bytes -/

theorem exec_ldRegReg (rd rs : Reg8) (s : State) :
    exec (ldRegReg rd rs) s = (s.setReg rd (s.reg rs)).finish 4 := by
  cases rd <;> cases rs <;> rfl

theorem exec_ldRegImm (rd : Reg8) (n : Byte) (s : State) : exec (ldRegImm n rd) s = (s.setReg rd n).finish 8 := by
  cases rd <;> rfl

theorem exec_ldRegMem (rd : Reg8) (s : State) : exec (ldRegMem rd) s = (s.setReg rd s.readHl).finish 8 := by
  cases rd <;> rfl

theorem encode_ldRegReg (rd rs : Reg8) :
    encode (ldRegReg rd rs) = [BitVec.ofNat 8 (0x40 + 8 * rd.code + rs.code)] := by
  cases rd <;> cases rs <;> rfl

theorem encode_ldRegImm (rd : Reg8) (n : Byte) :
    encode (ldRegImm n rd) = [BitVec.ofNat 8 (0x06 + 8 * rd.code), n] := by
  cases rd <;> rfl

theorem encode_ldRegMem (rd : Reg8) : encode (ldRegMem rd) = [BitVec.ofNat 8 (0x46 + 8 * rd.code)] := by
  cases rd <;> rfl

theorem encode_ldMemReg (r : Reg8) : encode (ldMemReg r) = [BitVec.ofNat 8 (0x70 + r.code)] := by
  cases r <;> rfl

/-! ### Stepping HL after a store -/

/-- A store leaves HL as it was. -/
@[simp] theorem State.hl_write (s : State) (addr : Word) (v : Byte) : (s.write addr v).hl = s.hl := by
  simp [State.hl, State.reg16]

/-- The step up after a store is of the old HL (R417). -/
theorem State.incHl_write (s : State) (addr : Word) (v : Byte) :
    (s.write addr v).incHl = (s.write addr v).setReg16 .hl (s.hl + 1) := by
  rw [State.incHl, State.hl_write]

/-- So is the step down (R418). -/
theorem State.decHl_write (s : State) (addr : Word) (v : Byte) :
    (s.write addr v).decHl = (s.write addr v).setReg16 .hl (s.hl - 1) := by
  rw [State.decHl, State.hl_write]

/-! ### The obligations on the 8-bit loads and stores -/

/-- Settles O5: each family is one write of the destination register, of a byte taken from the state before. -/
theorem loadsIntoARegister : Obligations.LoadsIntoARegister :=
  ⟨fun rd rs s => ⟨exec_ldRegReg rd rs s, encode_ldRegReg rd rs⟩,
    fun rd n s => ⟨exec_ldRegImm rd n s, encode_ldRegImm rd n⟩,
    fun rd s => ⟨exec_ldRegMem rd s, encode_ldRegMem rd⟩⟩

/-- Settles O6: each load is the write of A its rule names, once the addresses 0xFF00 + n and 0xFF00 + C are written as
the model's `highPage`. -/
theorem loadsIntoA : Obligations.LoadsIntoA := by
  intro s nn n
  simp only [← highPage_eq]
  exact ⟨⟨rfl, rfl⟩, ⟨rfl, rfl⟩, ⟨rfl, rfl⟩, ⟨rfl, rfl⟩, ⟨rfl, rfl⟩, ⟨rfl, rfl⟩, ⟨rfl, rfl⟩⟩

/-- Settles O7: each store is the bus write of its rule, with `highPage` as for the loads; LD (HL+),A and LD (HL-),A
step the old HL, which the write before keeps. -/
theorem stores : Obligations.Stores := by
  intro s r nn n
  simp only [← highPage_eq]
  have hinc : exec .ld_mhli_a s = ((s.write s.hl s.a).setReg16 .hl (s.hl + 1)).finish 8 :=
    congrArg (State.finish · 8) (s.incHl_write s.hl s.a)
  have hdec : exec .ld_mhld_a s = ((s.write s.hl s.a).setReg16 .hl (s.hl - 1)).finish 8 :=
    congrArg (State.finish · 8) (s.decHl_write s.hl s.a)
  exact ⟨⟨exec_ldMemReg r s, encode_ldMemReg r⟩, ⟨rfl, rfl⟩, ⟨rfl, rfl⟩, ⟨rfl, rfl⟩, ⟨rfl, rfl⟩, ⟨rfl, rfl⟩,
    ⟨rfl, rfl⟩, ⟨hinc, rfl⟩, ⟨hdec, rfl⟩, ⟨rfl, rfl⟩⟩

end Sys2Proof.Machine

namespace Sys2Proof.Machine

/-! ## The 16-bit loads and the stack (41_loads16) -/

/-! ### LD rr,nn, PUSH, POP and RET: what each executes, and its bytes -/

theorem exec_ldPairImm (nn : Word) (p : Dd) (s : State) :
    exec (ldPairImm nn p) s = (s.setReg16 p.pair nn).finish 12 := by
  cases p <;> rfl

theorem exec_popPair (q : Qq) (s : State) :
    exec (popPair q) s = (s.popped.setReg16 q.pair s.top16).finish 12 := by
  cases q <;> rfl

theorem exec_ret_eq (s : State) : exec .ret s = (s.popped.jump s.top16).finish 16 := rfl

theorem encode_ldPairImm (nn : Word) (p : Dd) :
    encode (ldPairImm nn p) =
      [BitVec.ofNat 8 (0x01 + 16 * p.code), nn.extractLsb' 0 8, nn.extractLsb' 8 8] := by
  cases p <;> rfl

theorem encode_pushPair (q : Qq) : encode (pushPair q) = [BitVec.ofNat 8 (0xC5 + 16 * q.code)] := by
  cases q <;> rfl

theorem encode_popPair (q : Qq) : encode (popPair q) = [BitVec.ofNat 8 (0xC1 + 16 * q.code)] := by
  cases q <;> rfl

/-! ### A signed offset and the flags written -/

/-- Adding a sign-extended byte is adding its signed value modulo 2^16. -/
theorem toNat_add_sext16 (v : Word) (e : Byte) :
    ((v + sext16 e).toNat : Int) = (v.toNat + e.toInt) % 65536 := by
  have hsext : (sext16 e).toNat = (e.toInt % 65536).toNat := BitVec.toNat_ofInt e.toInt
  rw [BitVec.toNat_add, hsext]
  omega

/-- A flag byte that `packFlags` made shows its four flags, its low nibble 0 (R102, R103). -/
theorem flagsAre_of_packFlags {t : State} {z n h c : Bool} (hf : t.f = packFlags z n h c &&& 0xF0#8) :
    FlagsAre t (z = true) (n = true) (h = true) (c = true) := by
  obtain ⟨hz, hn, hh, hc, hlow⟩ := packFlags_bits z n h c
  rw [FlagsAre, hf, hz, hn, hh, hc]
  exact ⟨.rfl, .rfl, .rfl, .rfl, hlow⟩

/-- H and C are the carries of the unsigned add of the offset to the low byte (R445). -/
theorem State.setSpFlags_flagsAre (s : State) (sp : Word) (e : Byte) :
    FlagsAre (s.setSpFlags sp e) False False (sp.toNat % 16 + e.toNat % 16 > 15)
      (sp.toNat % 256 + e.toNat > 255) := by
  simpa only [Bool.false_eq_true, decide_eq_true_eq] using flagsAre_of_packFlags (t := s.setSpFlags sp e) rfl

/-! ### The bytes of a popped word, and SP after a push -/

@[simp] theorem State.hiByte_top16 (s : State) : hiByte s.top16 = s.read (s.sp + 1) := hiByte_wordOf _ _

@[simp] theorem State.loByte_top16 (s : State) : loByte s.top16 = s.read s.sp := loByte_wordOf _ _

@[simp] theorem State.push16_sp (s : State) (v : Word) : (s.push16 v).sp = s.sp - 2 := by
  rw [State.push16_eq]

/-! ### A push into the machine's own storage -/

/-- The cell of an address by its number: the echo's is 0x2000 below (R208), IE's is 0xFF7F (R212). -/
theorem cellOf_toNat (a : Word) : cellOf a =
    if 0xE000 ≤ a.toNat ∧ a.toNat < 0xFE00 then a.toNat - 0x2000
    else if a.toNat = 0xFFFF then 0xFF7F
    else a.toNat := by
  split
  next h => exact cellOf_echo (regionOf_eq h)
  next hecho =>
    split
    next h => exact cellOf_ie (regionOf_eq h)
    next hie =>
      exact cellOf_own rfl (fun h => hecho (spans_of_regionOf h)) (fun h => hie (spans_of_regionOf h))

/-- Neighbouring addresses have two cells, at the ends of the echo, at IE and over the wrap too. -/
theorem cellOf_sub_one_ne (a : Word) : cellOf (a - 1) ≠ cellOf a := by
  have hsub : (a - 1).toNat = (a.toNat + 65535) % 65536 := by bv_omega
  rw [cellOf_toNat, cellOf_toNat, hsub]
  split_ifs <;> omega

section

variable {s : State} {a : Word}

/-- Of two bytes stored at neighbouring addresses, the higher first, both are read back (R230). -/
theorem State.read_write_write (hmem : s.memOk) (h : IsRam a) (h' : IsRam (a - 1)) (hi lo : Byte) :
    ((s.write a hi).write (a - 1) lo).read a = hi ∧ ((s.write a hi).write (a - 1) lo).read (a - 1) = lo := by
  rw [State.read_ram h, State.read_ram h', State.write_ram h, State.write_ram h']
  exact ⟨(Memory.read_write_other lo (cellOf_sub_one_ne a).symm).trans (Memory.read_write_same _ hi hmem.1),
    Memory.read_write_same _ lo (Memory.write_wf _ hi hmem.1)⟩

/-- What a push stores, the word on top of the stack is. -/
theorem State.top16_push16 (hmem : s.memOk) (h1 : IsRam (s.sp - 1)) (h2 : IsRam (s.sp - 2)) (v : Word) :
    (s.push16 v).top16 = v := by
  have hsp : s.sp - 2 = s.sp - 1 - 1 := by bv_omega
  have hsp' : s.sp - 1 - 1 + 1 = s.sp - 1 := by bv_omega
  rw [hsp] at h2
  obtain ⟨hhi, hlo⟩ := State.read_write_write hmem h1 h2 (hiByte v) (loByte v)
  have hbus := s.push16_sameBus v
  rw [hsp] at hbus
  rw [State.top16, s.push16_sp, hsp, hsp', hbus.read, hbus.read, hhi, hlo, wordOf_bytes]

/-- A push and the fall of SP undone change the memory alone. -/
theorem State.popped_push16 (h1 : IsRam (s.sp - 1)) (h2 : IsRam (s.sp - 2)) (v : Word) :
    (s.push16 v).popped = { s with mem := (s.push16 v).mem } := by
  have hsp : s.sp - 2 + 2 = s.sp := by bv_omega
  rw [State.push16_eq, State.write_ram h1, State.write_ram h2, State.popped, hsp]

theorem and_highNibble : ∀ f : Byte, f &&& 0x0F#8 = 0 → f &&& 0xF0#8 = f := by decide

/-- Writing a pair's own value back changes nothing, AF's where F's low nibble is 0 (R103). -/
theorem State.setReg16_self {r : Reg16} {v : Word} (hv : s.reg16 r = v) (hf : s.f &&& 0x0F#8 = 0) :
    s.setReg16 r v = s := by
  subst hv
  cases r with
  | af => simp [State.setReg16, State.reg16, State.setF, and_highNibble s.f hf]
  | bc | de | hl | sp => simp [State.setReg16, State.reg16]

/-- The word and the state that a pop finds after a push, whatever the pc and the count between them. -/
theorem State.pop_of_push (hmem : s.memOk) (h1 : IsRam (s.sp - 1)) (h2 : IsRam (s.sp - 2)) {v p : Word} {n : Nat}
    {m : State} (hm : m = { s.push16 v with pc := p, cycles := n }) :
    m.top16 = v ∧ m.popped = { s with mem := m.mem, pc := p, cycles := n } := by
  have hbus : (s.push16 v).SameBus m := hm ▸ ⟨rfl, rfl, rfl, rfl⟩
  have hsp : m.sp = (s.push16 v).sp := hm ▸ rfl
  refine ⟨?_, ?_⟩
  · rw [State.top16, hsp, hbus.read, hbus.read]
    exact State.top16_push16 hmem h1 h2 v
  · subst hm
    exact congrArg (fun u : State => { u with pc := p, cycles := n }) (State.popped_push16 h1 h2 v)

end

/-! ### The obligations on the 16-bit loads and the stack -/

/-- Settles O9: each load is one write of the pair; SP plus the offset is `toNat_add_sext16`, and its flags are those
`setSpFlags` packs. -/
theorem loadsIntoAPair : Obligations.LoadsIntoAPair := by
  refine ⟨fun s nn p => ⟨exec_ldPairImm nn p s, encode_ldPairImm nn p⟩, fun s => ⟨rfl, rfl⟩,
    fun s e => ⟨_, rfl, rfl, ?_, ?_, rfl⟩⟩
  · exact (append_extract (s.sp + sext16 e)).symm ▸ toNat_add_sext16 s.sp e
  · exact (s.setReg16 .hl (s.sp + sext16 e)).setSpFlags_flagsAre s.sp e

/-- Settles O10: a push is the two writes of `State.push16_eq`. (Protected, so that `pushPair` stays the
instruction.) -/
protected theorem pushPair : Obligations.PushPair := fun s q =>
  ⟨by rw [exec_pushPair, State.push16_eq]; rfl, encode_pushPair q⟩

/-- Settles O11: the bytes at SP + 1 and SP are those of the word on top of the stack, which each POP writes to its
pair. (Protected, so that `popPair` stays the instruction.) -/
protected theorem popPair : Obligations.PopPair := by
  simp only [Obligations.PopPair, ← State.hiByte_top16, ← State.loByte_top16]
  exact ⟨fun _ => rfl, fun _ => rfl, fun _ => rfl, fun _ => rfl, encode_popPair⟩

/-- Settles O29: after a push the word on top of the stack is the one pushed and taking it off restores all but memory,
`State.pop_of_push`; a pair written with its own value, or the pc with the return address, is then as it was. -/
theorem stackRoundTrips : Obligations.StackRoundTrips := by
  intro s hmem hf h1 h2
  refine ⟨fun q m t hpush hpop => ?_, fun nn m t hcall hret => ?_⟩
  · have hm : m = { s.push16 (s.reg16 q.pair) with pc := s.pc, cycles := 16 } := by
      rw [exec_pushPair] at hpush
      cases hpush
      rw [← s.push16_pc (s.reg16 q.pair)]
    obtain ⟨htop, hpopped⟩ := State.pop_of_push hmem h1 h2 hm
    have hself : m.popped.setReg16 q.pair m.top16 = m.popped := by
      rw [htop, hpopped]
      exact State.setReg16_self (by cases q <;> rfl) hf
    rw [exec_popPair, hself, hpopped] at hpop
    cases hpop
    rfl
  · have hm : { m with pc := nn + 1 } = { s.push16 s.pc with pc := nn + 1, cycles := 24 } := by
      cases hcall
      rfl
    obtain ⟨htop, hpopped⟩ := State.pop_of_push hmem h1 h2 hm
    rw [exec_ret_eq, htop, hpopped] at hret
    cases hret
    rfl

end Sys2Proof.Machine

namespace Sys2Proof.Machine

/-! ## 8-bit arithmetic and logic (42_alu8) -/

/-! ### The ALU operations: what each form executes, and its bytes (R502) -/

/-- The state an ALU operation makes of one in which its operand is `b`, but for the count (R503 to R526). -/
def State.alu (s : State) (b : Byte) : AluOp → State
  | .add => s.setAlu (add8 s.a b false)
  | .adc => s.setAlu (add8 s.a b s.flagC)
  | .sub => s.setAlu (sub8 s.a b false)
  | .sbc => s.setAlu (sub8 s.a b s.flagC)
  | .and => s.setAlu (and8 s.a b)
  | .xor => s.setAlu (xor8 s.a b)
  | .or => s.setAlu (or8 s.a b)
  | .cp => s.setAluFlags (sub8 s.a b false)

theorem exec_aluInstr (op : AluOp) (x : Operand) (s : State) :
    exec (aluInstr op x) s = (s.alu (x.value s) op).finish x.cost := by
  cases x with
  | reg r => cases op <;> cases r <;> rfl
  | mhl | imm n => cases op <;> rfl

theorem encode_aluInstr (op : AluOp) (x : Operand) : encode (aluInstr op x) = aluBytes op x := by
  cases x with
  | reg r => cases op <;> cases r <;> rfl
  | mhl | imm n => cases op <;> rfl

/-! ### INC and DEC: what each form executes, and its bytes -/

theorem exec_incInstr (x : Target) (s : State) :
    exec (incInstr x) s = ((x.put s (inc8 (x.value s) s.flagC).res).setAluFlags
      (inc8 (x.value s) s.flagC)).finish (x.cost 4 12) := by
  cases x with
  | reg r => cases r <;> rfl
  | mhl => rfl

theorem exec_decInstr (x : Target) (s : State) :
    exec (decInstr x) s = ((x.put s (dec8 (x.value s) s.flagC).res).setAluFlags
      (dec8 (x.value s) s.flagC)).finish (x.cost 4 12) := by
  cases x with
  | reg r => cases r <;> rfl
  | mhl => rfl

theorem encode_incInstr (x : Target) : encode (incInstr x) = [BitVec.ofNat 8 (0x04 + 8 * x.code)] := by
  cases x with
  | reg r => cases r <;> rfl
  | mhl => rfl

theorem encode_decInstr (x : Target) : encode (decInstr x) = [BitVec.ofNat 8 (0x05 + 8 * x.code)] := by
  cases x with
  | reg r => cases r <;> rfl
  | mhl => rfl

/-! ### Results as numbers -/

theorem toNat_add8 (a b : Byte) (c : Bool) :
    (add8 a b c).res.toNat = (a.toNat + b.toNat + c.toNat) % 256 :=
  BitVec.toNat_ofNat _ _

theorem toNat_sub8 (a b : Byte) (c : Bool) :
    ((sub8 a b c).res.toNat : Int) = ((a.toNat : Int) - b.toNat - c.toNat) % 256 := by
  have hres : (sub8 a b c).res.toNat = (((a.toNat : Int) - b.toNat - c.toNat) % 256).toNat :=
    BitVec.toNat_ofInt _
  omega

/-- What CP compares: without a carry the difference is 0 exactly for equal bytes. -/
theorem sub8_res_eq_zero_iff (a b : Byte) : (sub8 a b false).res = 0 ↔ a = b := by
  have hres := toNat_sub8 a b false
  rw [← BitVec.toNat_inj, ← BitVec.toNat_inj]
  simp only [Bool.toNat_false, BitVec.ofNat_eq_ofNat, BitVec.toNat_ofNat] at hres ⊢
  omega

theorem inc8_res (v : Byte) (c : Bool) : (inc8 v c).res = BitVec.ofNat 8 (v.toNat + 1) :=
  BitVec.eq_of_toNat_eq (by simp [inc8])

theorem dec8_res (v : Byte) (c : Bool) : (dec8 v c).res = BitVec.ofNat 8 (v.toNat + 255) :=
  BitVec.eq_of_toNat_eq (by simp [dec8, BitVec.toNat_sub, Nat.add_comm])

/-! ### Flags as facts about numbers -/

theorem flag_clear : false = true ↔ False := .of_eq Bool.false_eq_true

theorem flag_set : true = true ↔ True := .of_eq (eq_self true)

section

variable {t : State} {a b v : Byte} {c : Bool}

/-- What the flags say, given what each of the four written says. -/
theorem flagsAre_of_setFlags (s : State) {z n h c : Bool} {Z N H C : Prop} (hf : t.f = (s.setFlags z n h c).f)
    (hz : z = true ↔ Z) (hn : n = true ↔ N) (hh : h = true ↔ H) (hc : c = true ↔ C) : FlagsAre t Z N H C := by
  rw [← hz, ← hn, ← hh, ← hc]
  exact flagsAre_of_packFlags hf

/-- R500: H and C are the carries out of bits 3 and 7. -/
theorem flagsAre_of_add8 (s : State) (hf : t.f = (s.setAluFlags (add8 a b c)).f) :
    FlagsAre t ((add8 a b c).res = 0) False (a.toNat % 16 + b.toNat % 16 + c.toNat > 15)
      (a.toNat + b.toNat + c.toNat > 255) :=
  flagsAre_of_setFlags s hf decide_eq_true_iff flag_clear decide_eq_true_iff decide_eq_true_iff

/-- R501: H and C are the borrows into bits 3 and 7. -/
theorem flagsAre_of_sub8 (s : State) (hf : t.f = (s.setAluFlags (sub8 a b c)).f) :
    FlagsAre t ((sub8 a b c).res = 0) True (a.toNat % 16 < b.toNat % 16 + c.toNat)
      (a.toNat < b.toNat + c.toNat) :=
  flagsAre_of_setFlags s hf decide_eq_true_iff flag_set (decide_eq_true_iff.trans (by omega))
    (decide_eq_true_iff.trans (by omega))

/-- R515. -/
theorem flagsAre_of_and8 (s : State) (hf : t.f = (s.setAluFlags (and8 a b)).f) :
    FlagsAre t ((and8 a b).res = 0) False True False :=
  flagsAre_of_setFlags s hf decide_eq_true_iff flag_clear flag_set flag_clear

/-- R518. -/
theorem flagsAre_of_xor8 (s : State) (hf : t.f = (s.setAluFlags (xor8 a b)).f) :
    FlagsAre t ((xor8 a b).res = 0) False False False :=
  flagsAre_of_setFlags s hf decide_eq_true_iff flag_clear flag_clear flag_clear

/-- R521. -/
theorem flagsAre_of_or8 (s : State) (hf : t.f = (s.setAluFlags (or8 a b)).f) :
    FlagsAre t ((or8 a b).res = 0) False False False :=
  flagsAre_of_setFlags s hf decide_eq_true_iff flag_clear flag_clear flag_clear

theorem and_lowNibble_eq_iff (v m : Byte) : v &&& 0x0F#8 = m ↔ v.toNat % 16 = m.toNat := by
  rw [← BitVec.toNat_inj, toNat_and_mask v 4 rfl]
  rfl

/-- R527: H says that the low nibble was full, C is the carry that comes in. -/
theorem flagsAre_of_inc8 (s : State) (hf : t.f = (s.setAluFlags (inc8 v c)).f) :
    FlagsAre t (v.toNat = 255) False (v.toNat % 16 = 15) (c = true) :=
  flagsAre_of_setFlags s hf (decide_eq_true_iff.trans (by bv_omega)) flag_clear
    (decide_eq_true_iff.trans (and_lowNibble_eq_iff v 0x0F#8)) .rfl

/-- R529: H says that the low nibble was empty, C is the carry that comes in. -/
theorem flagsAre_of_dec8 (s : State) (hf : t.f = (s.setAluFlags (dec8 v c)).f) :
    FlagsAre t (v.toNat = 1) True (v.toNat % 16 = 0) (c = true) :=
  flagsAre_of_setFlags s hf (decide_eq_true_iff.trans (by bv_omega)) flag_set
    (decide_eq_true_iff.trans (and_lowNibble_eq_iff v 0x00#8)) .rfl

end

/-! ### DAA's adjustment (R531) -/

/-- The two corrections share no bit: their union is their sum. -/
theorem toNat_daaAdjust (high low : Prop) [Decidable high] [Decidable low] :
    ((if high then 0x60#8 else 0) ||| (if low then 0x06#8 else 0) : Byte).toNat =
      (if high then 0x60 else 0) + (if low then 6 else 0) := by
  split_ifs <;> rfl

section

variable (a : Byte) {n : Bool} (h c : Bool)

/-- After an addition. -/
theorem toNat_daa8_add (hn : n = false) : (daa8 a n h c).res.toNat =
    (a.toNat + (if c = true ∨ a.toNat > 0x99 then 0x60 else 0) +
      (if h = true ∨ a.toNat % 16 > 9 then 6 else 0)) % 256 := by
  have hhigh : 0x99#8 < a ↔ a.toNat > 0x99 := Iff.rfl
  have hlow : 0x09#8 < a &&& 0x0F#8 ↔ a.toNat % 16 > 9 := by
    rw [BitVec.lt_def, toNat_and_mask a 4 rfl]
    rfl
  simp only [hn, daa8, Bool.false_eq_true, if_false, BitVec.toNat_add, toNat_daaAdjust, Bool.or_eq_true,
    decide_eq_true_eq, hhigh, hlow, Nat.add_assoc]

/-- After a subtraction. -/
theorem toNat_daa8_sub (hn : n = true) : ((daa8 a n h c).res.toNat : Int) =
    ((a.toNat : Int) - (if c = true then 0x60 else 0) - (if h = true then 6 else 0)) % 256 := by
  simp only [hn, daa8, if_true, BitVec.toNat_sub, toNat_daaAdjust]
  split_ifs <;> omega

/-- N is kept, H cleared, and C never cleared. -/
theorem flagsAre_of_daa8 {t : State} (s : State) (hf : t.f = (s.setAluFlags (daa8 a n h c)).f) :
    FlagsAre t ((daa8 a n h c).res = 0) (n = true) False (c = true ∨ (n = false ∧ a.toNat > 0x99)) := by
  cases n with
  | true => exact flagsAre_of_setFlags s hf decide_eq_true_iff .rfl flag_clear (by simp [daa8])
  | false => exact flagsAre_of_setFlags s hf decide_eq_true_iff .rfl flag_clear (by simp [daa8, BitVec.lt_def])

end

/-! ### Decimal digits -/

/-- Of two bytes of two decimal digits each, `x y` and `z w`, let `a` be what their sum leaves in A. DAA's test of the
low digit says that `y + w` is 10 or more, its test of the high digit that the decimal sum is 100 or more, so the two
corrections carry each digit as decimal addition does. -/
theorem daaAdjust_packedSum {x y z w a : Nat} (hx : x < 10) (hy : y < 10) (hz : z < 10) (hw : w < 10)
    (ha : a = (16 * x + y + (16 * z + w)) % 256) :
    (a + (if 16 * x + y + (16 * z + w) > 255 ∨ a > 0x99 then 0x60 else 0) +
        (if y + w > 15 ∨ a % 16 > 9 then 6 else 0)) % 256 =
      16 * ((10 * x + y + (10 * z + w)) % 100 / 10) + (10 * x + y + (10 * z + w)) % 10 ∧
    (16 * x + y + (16 * z + w) > 255 ∨ a > 0x99 ↔ 100 ≤ 10 * x + y + (10 * z + w)) := by
  have hhigh : 16 * x + y + (16 * z + w) > 255 ∨ a > 0x99 ↔ 100 ≤ 10 * x + y + (10 * z + w) := by omega
  have hlow : y + w > 15 ∨ a % 16 > 9 ↔ 10 ≤ y + w := by omega
  have hones : (10 * x + y + (10 * z + w)) % 10 = y + w - (if 10 ≤ y + w then 10 else 0) := by
    split_ifs <;> omega
  have htens : (10 * x + y + (10 * z + w)) % 100 / 10 = x + z + (if 10 ≤ y + w then 1 else 0) -
      (if 100 ≤ 10 * x + y + (10 * z + w) then 10 else 0) := by
    split_ifs <;> omega
  refine ⟨?_, hhigh⟩
  simp only [hhigh, hlow, hones, htens]
  split_ifs <;> omega

/-! ### DEC of a register after INC -/

theorem dec8_inc8_res (v : Byte) (c c' : Bool) : (dec8 (inc8 v c).res c').res = v := BitVec.add_sub_cancel v 1

section

variable {s t : State} {r : Reg8} {v : Byte}

/-- Of a state in which one register was written, F and the count aside: its value, and what it is once the register is
written back. -/
theorem State.setReg_undo (ht : t = { s.setReg r v with f := t.f, cycles := t.cycles }) :
    t.reg r = v ∧ t.setReg r (s.reg r) = { s with f := t.f, cycles := t.cycles } := by
  rw [ht]
  cases r <;> exact ⟨rfl, rfl⟩

end

/-! ### The obligations on 8-bit arithmetic and logic -/

/-- Settles O12: both are `add8`, without and with the carry flag. -/
theorem addAndAddWithCarry : Obligations.AddAndAddWithCarry := fun s x =>
  ⟨⟨_, exec_aluInstr .add x s, rfl, toNat_add8 .., flagsAre_of_add8 (c := false) s rfl, encode_aluInstr ..⟩,
    ⟨_, exec_aluInstr .adc x s, rfl, toNat_add8 .., flagsAre_of_add8 s rfl, encode_aluInstr ..⟩⟩

/-- Settles O13: all three are `sub8`, SBC with the carry flag; CP's Z is `sub8_res_eq_zero_iff`. -/
theorem subtractAndCompare : Obligations.SubtractAndCompare := by
  intro s x
  have hdiff := toNat_sub8 s.a (x.value s) false
  rw [Bool.toNat_false, Nat.cast_zero, Int.sub_zero] at hdiff
  refine ⟨⟨_, exec_aluInstr .sub x s, rfl, hdiff, flagsAre_of_sub8 (c := false) s rfl, encode_aluInstr ..⟩,
    ⟨_, exec_aluInstr .sbc x s, rfl, toNat_sub8 .., flagsAre_of_sub8 s rfl, encode_aluInstr ..⟩,
    ⟨_, exec_aluInstr .cp x s, rfl, ?_, encode_aluInstr ..⟩⟩
  rw [← sub8_res_eq_zero_iff]
  exact flagsAre_of_sub8 (c := false) s rfl

/-- Settles O14: the results are the bitwise operations on bytes. -/
theorem logic : Obligations.Logic := fun s x =>
  ⟨⟨_, exec_aluInstr .and x s, rfl, fun _ => BitVec.getLsbD_and, flagsAre_of_and8 s rfl, encode_aluInstr ..⟩,
    ⟨_, exec_aluInstr .xor x s, rfl, fun _ => BitVec.getLsbD_xor, flagsAre_of_xor8 s rfl, encode_aluInstr ..⟩,
    ⟨_, exec_aluInstr .or x s, rfl, fun _ => BitVec.getLsbD_or, flagsAre_of_or8 s rfl, encode_aluInstr ..⟩⟩

/-- Settles O15: INC and DEC write back `inc8` and `dec8` of the operand; of a register, DEC undoes INC. -/
theorem incrementAndDecrement : Obligations.IncrementAndDecrement := by
  refine ⟨fun s x => ?_, fun s x => ?_, fun s r => ?_⟩
  · refine ⟨_, exec_incInstr x s, ?_, flagsAre_of_inc8 s rfl, encode_incInstr x⟩
    rw [← inc8_res]
    rfl
  · refine ⟨_, exec_decInstr x s, ?_, flagsAre_of_dec8 s rfl, encode_decInstr x⟩
    rw [← dec8_res]
    rfl
  · have ⟨t, hinc, ht⟩ : ∃ t, exec (incInstr (.reg r)) s = .next t ∧
        t = { s.setReg r (inc8 (s.reg r) s.flagC).res with f := t.f, cycles := t.cycles } :=
      ⟨_, exec_incInstr (.reg r) s, rfl⟩
    obtain ⟨hreg, hundo⟩ := State.setReg_undo ht
    have hback : (dec8 (t.reg r) t.flagC).res = s.reg r := by rw [hreg, dec8_inc8_res]
    refine ⟨t, _, hinc, exec_decInstr (.reg r) t, ?_⟩
    rw [Target.value, Target.put, hback, hundo]
    rfl

/-- Settles O16: DAA is `daa8`, whose value after an addition and after a subtraction is said by `toNat_daa8_add` and
`toNat_daa8_sub`; the other three write F from the flags before. -/
theorem accumulatorAdjustAndFlags : Obligations.AccumulatorAdjustAndFlags := by
  intro s
  have hcpl : (s.a ^^^ 0xFF#8).toNat = 255 - s.a.toNat :=
    (congrArg BitVec.toNat (BitVec.xor_allOnes (x := s.a))).trans BitVec.toNat_not
  exact ⟨⟨_, rfl, rfl, toNat_daa8_add s.a s.flagH s.flagC, toNat_daa8_sub s.a s.flagH s.flagC,
      flagsAre_of_daa8 s.a s.flagH s.flagC s rfl, rfl⟩,
    ⟨_, rfl, rfl, hcpl, flagsAre_of_setFlags s rfl .rfl flag_set flag_set .rfl, rfl⟩,
    ⟨_, rfl, rfl, flagsAre_of_setFlags s rfl .rfl flag_clear flag_clear flag_set, rfl⟩,
    ⟨_, rfl, rfl, flagsAre_of_setFlags s rfl .rfl flag_clear flag_clear (.of_eq (Bool.not_eq_true' _)), rfl⟩⟩

/-- Settles O17: the carries of the sum (O12) tell DAA (O16) which decimal digits overflowed. -/
theorem decimalAdditionWithDaa : Obligations.DecimalAdditionWithDaa := by
  intro s t u r m n hm hn ha hr hadd hdaa
  obtain ⟨⟨t', hadd', -, hsum, ⟨-, hN, hH, hC, -⟩, -⟩, -⟩ := addAndAddWithCarry s (.reg r)
  obtain ⟨⟨u', hdaa', -, hadj, -, ⟨-, -, -, hcarry, -⟩, -⟩, -⟩ := accumulatorAdjustAndFlags t
  cases hadd.symm.trans hadd'
  cases hdaa.symm.trans hdaa'
  have hN : t.f.getLsbD 6 = false := Bool.eq_false_iff.2 hN.1
  have hlow (k : Nat) : (16 * (k / 10) + k % 10) % 16 = k % 10 := by omega
  rw [Operand.value, ha, hr] at hsum hH hC
  rw [hlow, hlow] at hH
  have hdigit (k : Nat) : k % 10 < 10 := Nat.mod_lt k (by decide)
  have h := daaAdjust_packedSum (Nat.div_lt_of_lt_mul hm) (hdigit m) (Nat.div_lt_of_lt_mul hn) (hdigit n) hsum
  rw [Nat.div_add_mod, Nat.div_add_mod] at h
  rw [hadj hN, hcarry]
  simpa only [hN, hH, hC, true_and] using h

end Sys2Proof.Machine

namespace Sys2Proof.Machine

/-! ## 16-bit arithmetic (43_alu16) -/

/-! ### ADD HL,rr, INC rr and DEC rr: what each family executes, and its bytes (R306) -/

section

variable (p : Dd) (s : State)

theorem exec_addHlPair : exec (addHlPair p) s = (s.addHl (s.reg16 p.pair)).finish 8 := by
  cases p <;> rfl

theorem exec_incPair : exec (incPair p) s = (s.setReg16 p.pair (s.reg16 p.pair + 1)).finish 8 := by
  cases p <;> rfl

theorem exec_decPair : exec (decPair p) s = (s.setReg16 p.pair (s.reg16 p.pair - 1)).finish 8 := by
  cases p <;> rfl

theorem encode_addHlPair : encode (addHlPair p) = [BitVec.ofNat 8 (0x09 + 16 * p.code)] := by
  cases p <;> rfl

theorem encode_incPair : encode (incPair p) = [BitVec.ofNat 8 (0x03 + 16 * p.code)] := by
  cases p <;> rfl

theorem encode_decPair : encode (decPair p) = [BitVec.ofNat 8 (0x0B + 16 * p.code)] := by
  cases p <;> rfl

end

/-! ### The sum in HL and its carries (R550) -/

/-- The two bytes written are those of the sum modulo 2^16. -/
theorem State.toNat_addHl (s : State) (b : Word) :
    ((s.addHl b).h ++ (s.addHl b).l : Word).toNat = (s.hl.toNat + b.toNat) % 65536 :=
  (congrArg BitVec.toNat (append_extract (BitVec.ofNat 16 (s.hl.toNat + b.toNat)))).trans (BitVec.toNat_ofNat _ _)

/-- H and C are the carries out of bits 11 and 15; Z is kept. -/
theorem State.addHl_flagsAre (s : State) (b : Word) :
    FlagsAre (s.addHl b) (s.f.getLsbD 7 = true) False (s.hl.toNat % 4096 + b.toNat % 4096 > 4095)
      (s.hl.toNat + b.toNat > 65535) :=
  flagsAre_of_setFlags (s.setReg16 .hl _) rfl .rfl flag_clear decide_eq_true_iff decide_eq_true_iff

/-! ### The obligation on 16-bit arithmetic -/

/-- Settles O18: ADD HL,rr is `State.addHl`; ADD SP,e is `toNat_add_sext16` with the flags `setSpFlags` packs; INC rr
and DEC rr are one write of the pair. -/
theorem wideArithmetic : Obligations.WideArithmetic :=
  ⟨fun s p => ⟨_, exec_addHlPair p s, rfl, s.toNat_addHl (s.reg16 p.pair), s.addHl_flagsAre (s.reg16 p.pair),
      encode_addHlPair p⟩,
    fun s e => ⟨_, rfl, rfl, toNat_add_sext16 s.sp e,
      (s.setReg16 .sp (s.sp + sext16 e)).setSpFlags_flagsAre s.sp e, rfl⟩,
    fun s p => ⟨exec_incPair p s, encode_incPair p⟩,
    fun s p => ⟨exec_decPair p s, encode_decPair p⟩⟩

end Sys2Proof.Machine

namespace Sys2Proof.Machine

/-! ## Rotates, shifts and bits (44_rotate_shift_bit) -/

/-! ### The shifts: what each form executes, and its bytes (R313) -/

/-- What a shift makes of a byte, `c` being the carry flag that comes in (R604 to R619). -/
def shift8 (c : Bool) (v : Byte) : ShiftOp → ShiftOut
  | .rlc => rlc8 v
  | .rrc => rrc8 v
  | .rl => rl8 c v
  | .rr => rr8 c v
  | .sla => sla8 v
  | .sra => sra8 v
  | .swap => swap8 v
  | .srl => srl8 v

theorem exec_shiftInstr (op : ShiftOp) (x : Target) (s : State) :
    exec (shiftInstr op x) s = ((x.put s (shift8 s.flagC (x.value s) op).res).setShiftFlags
      (shift8 s.flagC (x.value s) op)).finish (x.cost 8 16) := by
  cases x with
  | reg r => cases op <;> cases r <;> rfl
  | mhl => cases op <;> rfl

theorem encode_shiftInstr (op : ShiftOp) (x : Target) :
    encode (shiftInstr op x) = [0xCB#8, BitVec.ofNat 8 (8 * op.code + x.code)] := by
  cases x with
  | reg r => cases op <;> cases r <;> rfl
  | mhl => cases op <;> rfl

/-! ### BIT, RES and SET: what each form executes, and its bytes (R313) -/

section

variable (b : Fin 8) (x : Target)

theorem exec_bitInstr (s : State) :
    exec (bitInstr b x) s = (s.testBit b (x.value s)).finish (x.cost 8 12) := by
  cases x with
  | reg r => cases r <;> fin_cases b <;> rfl
  | mhl => fin_cases b <;> rfl

theorem exec_resInstr (s : State) :
    exec (resInstr b x) s = (x.put s (resetBit b (x.value s))).finish (x.cost 8 16) := by
  cases x with
  | reg r => cases r <;> fin_cases b <;> rfl
  | mhl => exact exec_resInstr_mhl b s

theorem exec_setInstr (s : State) :
    exec (setInstr b x) s = (x.put s (setBit b (x.value s))).finish (x.cost 8 16) := by
  cases x with
  | reg r => cases r <;> fin_cases b <;> rfl
  | mhl => exact exec_setInstr_mhl b s

theorem encode_bitInstr : encode (bitInstr b x) = [0xCB#8, BitVec.ofNat 8 (0x40 + 8 * b.val + x.code)] := by
  cases x with
  | reg r => cases r <;> fin_cases b <;> rfl
  | mhl => fin_cases b <;> rfl

theorem encode_resInstr : encode (resInstr b x) = [0xCB#8, BitVec.ofNat 8 (0x80 + 8 * b.val + x.code)] := by
  cases x with
  | reg r => cases r <;> fin_cases b <;> rfl
  | mhl => fin_cases b <;> rfl

theorem encode_setInstr : encode (setInstr b x) = [0xCB#8, BitVec.ofNat 8 (0xC0 + 8 * b.val + x.code)] := by
  cases x with
  | reg r => cases r <;> fin_cases b <;> rfl
  | mhl => fin_cases b <;> rfl

end

/-! ### A bit as a number -/

theorem toNat_bit8 (b : Bool) : (bit8 b).toNat = b.toNat := by
  cases b <;> rfl

section

variable (v : Byte) (c : Bool)

theorem getLsbD_zero_iff : v.getLsbD 0 = true ↔ v.toNat % 2 = 1 := by
  rw [getLsbD_zero_eq, decide_eq_true_iff]

theorem getLsbD_seven_iff : v.getLsbD 7 = true ↔ v.toNat ≥ 128 := by
  have hmsb : v.getLsbD 7 = decide (128 ≤ v.toNat) := BitVec.msb_eq_decide v
  rw [hmsb, decide_eq_true_iff]

theorem toNat_getLsbD_zero : (v.getLsbD 0).toNat = v.toNat % 2 :=
  (Nat.toNat_testBit v.toNat 0).trans (by omega)

theorem toNat_getLsbD_seven : (v.getLsbD 7).toNat = v.toNat / 128 :=
  (Nat.toNat_testBit v.toNat 7).trans (by have := v.isLt; omega)

/-! ### Shifted bytes as numbers

RLC and SLA are RL with bit 7 or a clear bit for the carry; RRC, SRA and SRL are RR with bit 0, bit 7 or a clear bit for it. -/

theorem sla8_eq : sla8 v = rl8 false v := by
  simp [sla8, rl8, bit8]

theorem sra8_eq : sra8 v = rr8 (v.getLsbD 7) v := by
  have hsign : v &&& 0x80#8 = bit8 (v.getLsbD 7) <<< 7 := by
    refine (BitVec.and_twoPow v 7).trans ?_
    cases v.getLsbD 7 <;> rfl
  rw [sra8, rr8, hsign]

theorem srl8_eq : srl8 v = rr8 false v := by
  simp [srl8, rr8, bit8]

/-- The carry takes bit 0, which the shift to the left vacates. -/
theorem toNat_rl8 : (rl8 c v).res.toNat = 2 * v.toNat % 256 + c.toNat := by
  have hshift : (v <<< 1).toNat = 2 ^ 1 * (v.toNat % 128) := by
    rw [BitVec.toNat_shiftLeft, Nat.shiftLeft_eq]
    omega
  rw [rl8, BitVec.toNat_or, toNat_bit8, hshift, ← Nat.two_pow_add_eq_or_of_lt c.toNat_lt]
  omega

/-- The carry takes bit 7, which the shift to the right vacates. -/
theorem toNat_rr8 : (rr8 c v).res.toNat = v.toNat / 2 + 128 * c.toNat := by
  have hbit : (bit8 c <<< 7).toNat = 2 ^ 7 * c.toNat := by
    cases c <;> rfl
  have hshift : (v >>> 1).toNat = v.toNat / 2 := rfl
  have hlt : v.toNat / 2 < 2 ^ 7 := by omega
  rw [rr8, BitVec.toNat_or, hbit, hshift, Nat.or_comm, ← Nat.two_pow_add_eq_or_of_lt hlt, Nat.add_comm]

theorem toNat_rlc8 : (rlc8 v).res.toNat = 2 * v.toNat % 256 + v.toNat / 128 :=
  toNat_getLsbD_seven v ▸ toNat_rl8 v (v.getLsbD 7)

theorem toNat_rrc8 : (rrc8 v).res.toNat = v.toNat / 2 + 128 * (v.toNat % 2) :=
  toNat_getLsbD_zero v ▸ toNat_rr8 v (v.getLsbD 0)

theorem toNat_sla8 : (sla8 v).res.toNat = 2 * v.toNat % 256 := by
  rw [sla8_eq, toNat_rl8, Bool.toNat_false, Nat.add_zero]

theorem toNat_sra8 : (sra8 v).res.toNat = v.toNat / 2 + 128 * (v.toNat / 128) := by
  rw [sra8_eq, toNat_rr8, toNat_getLsbD_seven]

theorem toNat_srl8 : (srl8 v).res.toNat = v.toNat / 2 := by
  rw [srl8_eq, toNat_rr8, Bool.toNat_false, Nat.mul_zero, Nat.add_zero]

/-- The nibbles change places. -/
theorem toNat_swap8 : (swap8 v).res.toNat = 16 * (v.toNat % 16) + v.toNat / 16 := by
  have hlow : (v <<< 4).toNat = 2 ^ 4 * (v.toNat % 16) := by
    rw [BitVec.toNat_shiftLeft, Nat.shiftLeft_eq]
    omega
  have hhigh : (v >>> 4).toNat = v.toNat / 16 := Nat.shiftRight_eq_div_pow v.toNat 4
  have hlt : v.toNat / 16 < 2 ^ 4 := by omega
  rw [swap8, BitVec.toNat_or, hlow, hhigh, ← Nat.two_pow_add_eq_or_of_lt hlt]

end

/-! ### One bit reset or set -/

theorem getLsbD_resetBit (b : Nat) (v : Byte) (k : Nat) :
    (resetBit b v).getLsbD k = (v.getLsbD k && k != b) := by
  have hmask : resetBit b v = v &&& ~~~(BitVec.twoPow 8 b) := rfl
  rcases Nat.lt_or_ge k 8 with hk | hk
  · rw [hmask, BitVec.getLsbD_and, BitVec.getLsbD_not, BitVec.getLsbD_twoPow]
    grind
  · rw [BitVec.getLsbD_of_ge _ k hk, BitVec.getLsbD_of_ge v k hk, Bool.false_and]

theorem getLsbD_setBit {b : Nat} (hb : b < 8) (v : Byte) (k : Nat) :
    (setBit b v).getLsbD k = (v.getLsbD k || k == b) := by
  have hmask : setBit b v = v ||| BitVec.twoPow 8 b := rfl
  rw [hmask, BitVec.getLsbD_or, BitVec.getLsbD_twoPow]
  grind

/-! ### A rotate of A and a CB shift, as a whole -/

/-- Z is clear whatever the result (R600 to R603). -/
theorem State.rotateA_flagsAre (s : State) {o : ShiftOut} {C : Prop} (hout : o.out = true ↔ C) :
    FlagsAre (s.rotateA o) False False False C :=
  flagsAre_of_setFlags s rfl flag_clear flag_clear flag_clear hout

section

variable {op : ShiftOp} {x : Target} {s : State} {m n k : Nat} {Z C : Prop}

/-- The state a shift answers, by the number its result is, when that is 0, and the bit that left. -/
theorem exists_next_shiftInstr (hres : (shift8 s.flagC (x.value s) op).res.toNat = m)
    (hout : (shift8 s.flagC (x.value s) op).out = true ↔ C) (hm : m = n % 256) (hz : m = 0 ↔ Z)
    (hk : 8 * op.code + x.code = k) :
    ∃ t, exec (shiftInstr op x) s = .next t ∧
      t = { x.put s (BitVec.ofNat 8 n) with f := t.f, cycles := x.cost 8 16 } ∧
      FlagsAre t Z False False C ∧ encode (shiftInstr op x) = [0xCB#8, BitVec.ofNat 8 k] := by
  subst hk
  have hval : (shift8 s.flagC (x.value s) op).res = BitVec.ofNat 8 n :=
    BitVec.eq_of_toNat_eq (hres.trans (hm.trans (BitVec.toNat_ofNat n 8).symm))
  have hzero : (shift8 s.flagC (x.value s) op).res = 0 ↔ Z := by
    rw [← hz, ← hres]
    exact BitVec.toNat_inj.symm
  refine ⟨_, exec_shiftInstr op x s, ?_, ?_, encode_shiftInstr op x⟩
  · rw [← hval]
    rfl
  · exact flagsAre_of_setFlags s rfl (decide_eq_true_iff.trans hzero) flag_clear flag_clear hout

end

/-! ### The obligations on rotates, shifts and bits -/

/-- Settles O19: A is what the CB shift of the same name makes of it, as a number; `rotateA` clears Z, N and H. -/
theorem accumulatorRotates : Obligations.AccumulatorRotates := fun s =>
  ⟨⟨_, rfl, rfl, toNat_rlc8 s.a, s.rotateA_flagsAre (getLsbD_seven_iff s.a), rfl⟩,
    ⟨_, rfl, rfl, toNat_rrc8 s.a, s.rotateA_flagsAre (getLsbD_zero_iff s.a), rfl⟩,
    ⟨_, rfl, rfl, toNat_rl8 s.a s.flagC, s.rotateA_flagsAre (getLsbD_seven_iff s.a), rfl⟩,
    ⟨_, rfl, rfl, toNat_rr8 s.a s.flagC, s.rotateA_flagsAre (getLsbD_zero_iff s.a), rfl⟩⟩

/-- Settles O20: each result is the number `toNat_<op>8` says, the one of the rule modulo 256; the bit that left is bit 7,
and none for SWAP. RLC's result is 0 when both its parts are. -/
theorem leftShiftsAndSwap : Obligations.LeftShiftsAndSwap := by
  intro s x
  have hv := (x.value s).isLt
  have hcarry := (s.f.getLsbD 4).toNat_lt
  have hout := getLsbD_seven_iff (x.value s)
  rw [← Bool.toNat_eq_zero]
  refine ⟨exists_next_shiftInstr (toNat_rlc8 _) hout ?_ (Nat.add_eq_zero_iff.trans ?_) (Nat.zero_add _),
    exists_next_shiftInstr (toNat_rl8 _ (s.f.getLsbD 4)) hout ?_ ?_ rfl,
    exists_next_shiftInstr (toNat_sla8 _) hout rfl ?_ rfl,
    exists_next_shiftInstr (toNat_swap8 _) flag_clear ?_ ?_ rfl⟩ <;> omega

/-- Settles O21: each result is the number `toNat_<op>8` says, which is below 256; the bit that left is bit 0. -/
theorem rightShifts : Obligations.RightShifts := by
  intro s x
  have hv := (x.value s).isLt
  have hcarry := (s.f.getLsbD 4).toNat_lt
  have hout := getLsbD_zero_iff (x.value s)
  rw [← Bool.toNat_eq_zero]
  refine ⟨exists_next_shiftInstr (toNat_rrc8 _) hout ?_ ?_ rfl,
    exists_next_shiftInstr (toNat_rr8 _ (s.f.getLsbD 4)) hout ?_ ?_ rfl,
    exists_next_shiftInstr (toNat_sra8 _) hout ?_ ?_ rfl,
    exists_next_shiftInstr (toNat_srl8 _) hout ?_ ?_ rfl⟩ <;> omega

/-- Settles O22: BIT is `testBit` of the operand, which packs the four flags of R620. -/
theorem bitTest : Obligations.BitTest := fun s b x =>
  ⟨_, exec_bitInstr b x s, rfl,
    flagsAre_of_setFlags s rfl (.of_eq (Bool.not_eq_true' _)) flag_clear flag_set .rfl, encode_bitInstr b x⟩

/-- Settles O23: the byte written is the operand's with the one bit masked out or in. -/
theorem bitResetAndSet : Obligations.BitResetAndSet := fun s b x =>
  ⟨⟨_, getLsbD_resetBit b (x.value s), exec_resInstr b x s, encode_resInstr b x⟩,
    ⟨_, getLsbD_setBit b.isLt (x.value s), exec_setInstr b x s, encode_setInstr b x⟩⟩

end Sys2Proof.Machine

namespace Sys2Proof.Machine

/-! ## Control transfer (45_control) -/

/-! ### A transfer on a condition (R310) -/

section

variable {cc : Cond} {s u : State} {n m : Nat}

theorem State.branch_taken (h : cc.Holds s.f) : s.branch (s.cond cc) u n m = u.finish n :=
  if_pos ((s.cond_eq_true_iff cc).2 h)

theorem State.branch_notTaken (h : ¬ cc.Holds s.f) : s.branch (s.cond cc) u n m = s.finish m :=
  if_neg (mt (s.cond_eq_true_iff cc).1 h)

end

/-! ### The conditional jumps and returns and RST: what each executes, and its bytes -/

theorem exec_jpCond (nn : Word) (cc : Cond) (s : State) :
    exec (jpCond nn cc) s = s.branch (s.cond cc) (s.jump nn) 16 12 := by
  cases cc <;> rfl

theorem exec_jrCond (e : Byte) (cc : Cond) (s : State) :
    exec (jrCond e cc) s = s.branch (s.cond cc) (s.jumpRelative e) 12 8 := by
  cases cc <;> rfl

theorem exec_retCond (cc : Cond) (s : State) : exec (retCond cc) s = s.branch (s.cond cc) s.ret 20 8 := by
  cases cc <;> rfl

/-- `exec_rstInstr` with its target (R668). -/
theorem exec_rstInstr_eq (y : Fin 8) (s : State) :
    exec (rstInstr y) s = (s.call (BitVec.ofNat 16 (8 * y.val))).finish 16 := by
  fin_cases y <;> rfl

theorem encode_jpCond (nn : Word) (cc : Cond) :
    encode (jpCond nn cc) =
      [BitVec.ofNat 8 (0xC2 + 8 * cc.code), nn.extractLsb' 0 8, nn.extractLsb' 8 8] := by
  cases cc <;> rfl

theorem encode_jrCond (e : Byte) (cc : Cond) :
    encode (jrCond e cc) = [BitVec.ofNat 8 (0x20 + 8 * cc.code), e] := by
  cases cc <;> rfl

theorem encode_callCond (nn : Word) (cc : Cond) :
    encode (callCond nn cc) =
      [BitVec.ofNat 8 (0xC4 + 8 * cc.code), nn.extractLsb' 0 8, nn.extractLsb' 8 8] := by
  cases cc <;> rfl

theorem encode_retCond (cc : Cond) : encode (retCond cc) = [BitVec.ofNat 8 (0xC0 + 8 * cc.code)] := by
  cases cc <;> rfl

theorem encode_rstInstr (y : Fin 8) : encode (rstInstr y) = [BitVec.ofNat 8 (0xC7 + 8 * y.val)] := by
  fin_cases y <;> rfl

/-! ### The state after a call -/

/-- A call is the two writes of `State.push16_eq`, the pc being the target's (R660, R668). -/
theorem State.finish_call (s : State) (target : Word) (n : Nat) :
    (s.call target).finish n = .next
      { (s.write (s.sp - 1) (hiByte s.pc)).write (s.sp - 2) (loByte s.pc) with
        sp := s.sp - 2, pc := target, cycles := n } := by
  rw [State.call, State.push16_eq]
  rfl

/-! ### The obligations on control transfer -/

/-- Settles O24: a conditional jump is its unconditional form where `State.branch_taken` applies, and otherwise the
count alone; the relative target is `toNat_add_sext16`. -/
theorem jumps : Obligations.Jumps := fun s nn e cc =>
  ⟨⟨rfl, rfl⟩,
    fun h => (exec_jpCond nn cc s).trans (State.branch_taken h),
    fun h => (exec_jpCond nn cc s).trans (State.branch_notTaken h),
    encode_jpCond nn cc,
    ⟨rfl, rfl⟩,
    ⟨_, rfl, rfl, toNat_add_sext16 s.pc e, rfl⟩,
    fun h => ⟨_, (exec_jrCond e cc s).trans (State.branch_taken h), rfl, toNat_add_sext16 s.pc e⟩,
    fun h => (exec_jrCond e cc s).trans (State.branch_notTaken h),
    encode_jrCond e cc⟩

/-- Settles O25: every call made is `State.finish_call`. -/
theorem callsAndRestarts : Obligations.CallsAndRestarts := fun s nn cc y =>
  ⟨⟨s.finish_call nn 24, rfl⟩,
    fun h => (exec_callCond_taken nn h).trans (s.finish_call nn 24),
    fun h => exec_callCond_notTaken nn h,
    encode_callCond nn cc,
    ⟨(exec_rstInstr_eq y s).trans (s.finish_call _ 16), encode_rstInstr y⟩⟩

/-- Settles O26: RET and RETI answer the state of `State.ret` and `State.returnFromInterrupt` as it stands; RET cc is
RET with a count of its own, or the count alone. -/
theorem returns : Obligations.Returns := fun s cc =>
  ⟨⟨exec_ret_eq s, rfl⟩,
    fun h => (exec_retCond cc s).trans (State.branch_taken h),
    fun h => (exec_retCond cc s).trans (State.branch_notTaken h),
    encode_retCond cc,
    ⟨rfl, rfl⟩⟩

end Sys2Proof.Machine

namespace Sys2Proof.Machine

/-! ## System and control instructions (46_system) -/

/-! ### The undefined opcodes (R701) -/

theorem exec_undefinedOpcode {u : Instr × Byte} (hu : u ∈ undefinedOpcodes) (s : State) :
    exec u.1 s = s.finish 4 := by
  unfold undefinedOpcodes at hu
  fin_cases hu <;> rfl

theorem encode_undefinedOpcode {u : Instr × Byte} (hu : u ∈ undefinedOpcodes) : encode u.1 = [u.2] := by
  unfold undefinedOpcodes at hu
  fin_cases hu <;> rfl

/-! ### The two cases of HALT (R703) -/

theorem State.halt_armsBug {s : State} (hime : s.ime = false) (hp : s.pending ≠ 0) :
    s.halt = { s with haltBug := s.haltBug || Config.haltBug } :=
  if_pos (by simpa [hime] using hp)

theorem State.halt_halts {s : State} (h : ¬ (s.ime = false ∧ s.pending ≠ 0)) :
    s.halt = { s with halted := true } :=
  if_neg (by simpa using h)

/-! ### The EI delay at the end of an instruction (R707, R800) -/

section

variable {s t : State} {pend : Bool}

theorem State.applyEiDelay_pending (hp : pend = true) (ht : t.eiPending = true) :
    t.applyEiDelay pend = { t with ime := true, eiPending := false } :=
  if_pos (by simp [hp, ht])

theorem State.applyEiDelay_notPending (h : pend = false ∨ t.eiPending = false) : t.applyEiDelay pend = t :=
  if_neg (by simpa [or_iff_not_imp_left] using h)

/-- The other direction of `State.runInstr_cases`. -/
theorem State.runInstr_eq_next (h : exec s.fetchInstr.1 s.fetchInstr.2 = .next t) :
    s.runInstr = .next (t.applyEiDelay s.eiPending) := by
  rw [State.runInstr, h, thenState_next]

end

/-! ### The obligations on system and control instructions -/

/-- Settles O27: NOP and the undefined opcodes are the count alone; HALT is `State.halt`, in its two cases; STOP is
`State.stop`, which takes no operand. -/
theorem nopUndefinedHaltStop : Obligations.NopUndefinedHaltStop := fun s _ =>
  ⟨⟨rfl, rfl⟩,
    fun _ hu => ⟨exec_undefinedOpcode hu s, encode_undefinedOpcode hu⟩,
    rfl,
    fun hime hp => congrArg (State.finish · 4) (State.halt_armsBug hime hp),
    fun h => congrArg (State.finish · 4) (State.halt_halts h),
    rfl,
    ⟨rfl, rfl⟩⟩

/-- Settles O28: DI and EI answer the state of `State.disableInterrupts` and, EI_DELAY being 1, of the pending branch of
`State.enableInterrupts`; the step's part is `State.applyEiDelay` after the instruction, in its two cases. -/
theorem disableAndEnableInterrupts : Obligations.DisableAndEnableInterrupts :=
  ⟨fun _ => ⟨rfl, rfl⟩,
    fun _ => ⟨rfl, rfl⟩,
    fun _ _ h hs ht => (State.runInstr_eq_next h).trans (congrArg _ (State.applyEiDelay_pending hs ht)),
    fun _ _ h hst => (State.runInstr_eq_next h).trans (congrArg _ (State.applyEiDelay_notPending hst))⟩

end Sys2Proof.Machine

namespace Sys2Proof.Machine

/-! ## The step and the interrupts (60_exceptions) -/

section

variable {s : State} {i : Fin 5}

/-! ### The bits of `p = IE & IF & 0x1F` (R810) -/

theorem getLsbD_lowFive (j : Nat) : (0x1F#8).getLsbD j = decide (j < 5) := by
  show Nat.testBit (2 ^ 5 - 1) j = decide (j < 5)
  exact Nat.testBit_two_pow_sub_one 5 j

theorem State.getLsbD_pending (s : State) (j : Nat) :
    s.pending.getLsbD j = (decide (j < 5) && (s.io 0x7F).getLsbD j && (s.io 0x0F).getLsbD j) := by
  unfold State.pending
  rw [BitVec.getLsbD_and, BitVec.getLsbD_and, getLsbD_lowFive, Bool.and_comm, Bool.and_assoc]

/-- With IE = 0 nothing is pending. -/
theorem State.pending_of_ie_zero (h : s.io 0x7F = 0) : s.pending = 0 := by
  unfold State.pending
  rw [h]
  simp

/-- With something pending there is an interrupt to dispatch. -/
theorem State.exists_lowestBit_pending (h : s.pending ≠ 0) : ∃ i, lowestBit s.pending = some i :=
  Option.ne_none_iff_exists'.1 (mt (lowestBit_pending_none s).1 h)

/-! ### The CPU step in its other cases (R800) -/

/-- R800 (a) (c): stopped, or halted with nothing pending, the step is an idle slot. -/
theorem State.cpuStep_idles (h : s.stopped = true ∨ s.halted = true ∧ s.pending = 0) :
    s.cpuStep = .next { s with cycles := 4 } := by
  unfold State.cpuStep
  by_cases hs : s.stopped = true
  · exact if_pos hs
  · obtain ⟨hh, hp⟩ := h.resolve_left hs
    rw [if_neg hs, (lowestBit_pending_none s).2 hp, ite_self, if_pos hh, if_pos hp]
    rfl

/-- R800 (b): with IME set the lowest pending interrupt is dispatched. -/
theorem State.cpuStep_dispatches (hs : s.stopped = false) (him : s.ime = true) (hi : lowestBit s.pending = some i) :
    s.cpuStep = .next (s.dispatch i) := by
  unfold State.cpuStep
  rw [if_neg (by simp [hs]), if_pos him, hi]

/-- R813: a dispatch is the acknowledge and the two pushed bytes over the bus, then the control state. -/
theorem State.dispatch_eq (s : State) (i : Fin 5) :
    s.dispatch i =
      { ((s.write 0xFF0F#16 (s.read 0xFF0F#16 &&& ~~~(0x01#8 <<< i.val))).write (s.sp - 1)
          (hiByte (returnAddress s))).write (s.sp - 2) (loByte (returnAddress s)) with
        sp := s.sp - 2
        pc := BitVec.ofNat 16 (0x40 + 8 * i.val)
        ime := false
        eiPending := false
        halted := false
        haltBug := false
        cycles := 20 } := by
  rw [← vectorOf_eq]
  unfold State.dispatch
  simp only [State.push16_eq, State.write_withControl]
  rfl

/-! ### Every step answers a next state (R830) -/

theorem exists_exec_next (i : Instr) (s : State) : ∃ t, exec i s = .next t :=
  have ⟨_, _, hexec, _, _⟩ := exec_answersEffect i s
  ⟨_, hexec⟩

theorem State.exists_cpuStep_next (s : State) : ∃ t, s.cpuStep = .next t := by
  by_cases hidle : s.stopped = true ∨ s.halted = true ∧ s.pending = 0
  · exact ⟨_, State.cpuStep_idles hidle⟩
  simp only [not_or, not_and, Bool.not_eq_true] at hidle
  obtain ⟨hs, hh⟩ := hidle
  by_cases hp : s.ime = true ∧ s.pending ≠ 0
  · obtain ⟨i, hi⟩ := State.exists_lowestBit_pending hp.2
    exact ⟨_, State.cpuStep_dispatches hs hp.1 hi⟩
  · rw [State.cpuStep_runs hs (by simpa using hp) hh]
    obtain ⟨t, ht⟩ := exists_exec_next { s with halted := false }.fetchInstr.1 { s with halted := false }.fetchInstr.2
    exact ⟨_, State.runInstr_eq_next ht⟩

end

/-! ### The obligations of 60_exceptions -/

/-- Settles O32: the bits of `p`, the dispatch of the one that `lowestBit` finds, and a step with none to dispatch. -/
theorem interruptDispatch : Obligations.InterruptDispatch := by
  refine ⟨State.getLsbD_pending, fun s i hs him hi hlow => ?_, fun s hs hh hnone => ?_⟩
  · rw [State.cpuStep_dispatches hs him (lowestBit_eq_some _ i hi hlow), State.dispatch_eq]
    rfl
  · have awake : { s with halted := false } = s := by rw [← hh]
    have hp : s.ime = true → s.pending = 0 := fun him => hnone.resolve_left (by simp [him])
    rw [State.cpuStep_runs hs hp (by simp [hh]), awake]

/-- Settles O33: the count is part of what a CPU step can do. -/
theorem cpuStepCounts : Obligations.StepCounts := fun _ _ h => (State.cpuStep_effect h).2

/-- Settles O31: the idle slot, the waking and the dispatch are the cases of R800. -/
theorem idleSlots : Obligations.IdleSlots := by
  refine fun s => ⟨fun hs => State.cpuStep_idles (.inl hs),
    fun hs hh => ⟨fun hp => ?_, fun him hp => ?_, fun him hp => ?_⟩, State.pending_of_ie_zero⟩
  · exact State.cpuStep_idles (.inr ⟨hh, hp⟩)
  · exact State.cpuStep_runs hs (by simp [him]) fun _ => hp
  · obtain ⟨i, hi⟩ := State.exists_lowestBit_pending hp
    refine ⟨_, State.cpuStep_dispatches hs him hi, ?_⟩
    rw [State.dispatch_eq]
    exact ⟨rfl, rfl⟩

/-- Settles O34: `exec` and the CPU step always answer a next state, and the rest of a pass is a function of it. -/
theorem nothingFaults : Obligations.NothingFaults := by
  refine ⟨exists_exec_next, fun s => ?_⟩
  obtain ⟨t, ht⟩ := s.exists_cpuStep_next
  refine ⟨t.afterCpu.closeFrame, ?_⟩
  rw [step, State.driverStep, State.driverPass, ht, thenState_next, thenState_next]

end Sys2Proof.Machine

namespace Sys2Proof.Machine

/-! ## The PPU's state machine (61_ppu) -/

/-! ### A tick, below the threshold and at it (R852) -/

section

variable {s : State}

theorem State.tick_counts (h : s.dot + 1 ≠ s.mode.budget) : s.tick = { s with dot := s.dot + 1 } := if_neg h

theorem State.tick_ends (h : s.dot + 1 = s.mode.budget) : s.tick = { s with dot := 0 }.modeEnd := if_pos h

theorem modeCycles_eq_budget (m : PpuMode) : modeCycles m = m.budget := by
  cases m <;> rfl

theorem State.tick_oamSearch (hm : s.mode = .oamSearch) (hd : s.dot = 79) :
    s.tick = { s with dot := 0 }.enterMode .drawing := by
  rw [State.tick_ends (by rw [hm, hd]; rfl)]
  exact State.modeEnd_oamSearch hm

theorem State.tick_drawing (hm : s.mode = .drawing) (hd : s.dot = 171) :
    s.tick = ({ s with dot := 0 }.render s.line).enterMode .hblank := by
  rw [State.tick_ends (by rw [hm, hd]; rfl)]
  exact State.modeEnd_drawing hm

theorem State.tick_hblank (hm : s.mode = .hblank) (hd : s.dot = 203) :
    s.tick = ({ s with dot := 0 }.setLine (s.line + 1)).enterMode
      (if s.line + 1 < 144 then .oamSearch else .vblank) := by
  rw [State.tick_ends (by rw [hm, hd]; rfl)]
  exact State.modeEnd_hblank hm

theorem State.tick_vblank (hm : s.mode = .vblank) (hd : s.dot = 455) (hl : s.line ≠ 153) :
    s.tick = { s with dot := 0 }.setLine (s.line + 1) := by
  rw [State.tick_ends (by rw [hm, hd]; rfl)]
  exact (State.modeEnd_vblank (s := { s with dot := 0 }) hm).trans (if_neg (by simpa using hl))

/-- The end of the frame: line 0, the window's counter at 0. -/
theorem State.tick_wrap (hm : s.mode = .vblank) (hd : s.dot = 455) (hl : s.line = 153) :
    s.tick = ({ s with dot := 0, winLine := 0 }.setLine 0).enterMode .oamSearch := by
  rw [State.tick_ends (by rw [hm, hd]; rfl)]
  exact (State.modeEnd_vblank (s := { s with dot := 0 }) hm).trans (if_pos (by simp [hl]))

end

/-! ### The place of the PPU: mode, counter and line (R851, R852) -/

/-- Where the PPU is in its frame. -/
def State.place (s : State) : PpuMode × Nat × Nat := (s.mode, s.dot, s.line)

/-- The mode that follows a mode ended on a line, and its line (R852). -/
def afterMode : PpuMode → Nat → PpuMode × Nat
  | .oamSearch, line => (.drawing, line)
  | .drawing, line => (.hblank, line)
  | .hblank, line => (if line + 1 < 144 then .oamSearch else .vblank, line + 1)
  | .vblank, line => if line + 1 = 154 then (.oamSearch, 0) else (.vblank, line + 1)

/-- The place one cycle later (R852); nothing else of the state has a part in it (R856). -/
def nextPlace : PpuMode × Nat × Nat → PpuMode × Nat × Nat
  | (m, dot, line) =>
    if dot + 1 = m.budget then ((afterMode m line).1, 0, (afterMode m line).2) else (m, dot + 1, line)

theorem State.modeEnd_afterMode (s : State) : (s.modeEnd.mode, s.modeEnd.line) = afterMode s.mode s.line := by
  cases hm : s.mode with
  | oamSearch => simp [State.modeEnd_oamSearch hm, afterMode]
  | drawing => simp [State.modeEnd_drawing hm, afterMode]
  | hblank => simp [State.modeEnd_hblank hm, afterMode]
  | vblank =>
    rw [State.modeEnd_vblank hm, afterMode]
    split_ifs <;> simp [hm]

theorem State.tick_place (s : State) : s.tick.place = nextPlace s.place := by
  by_cases hd : s.dot + 1 = s.mode.budget
  · have hafter := State.modeEnd_afterMode { s with dot := 0 }
    simp only [Prod.ext_iff] at hafter
    rw [State.tick_ends hd, State.place, State.modeEnd_dot, hafter.1, hafter.2]
    exact (if_pos hd).symm
  · rw [State.tick_counts hd]
    exact (if_neg hd).symm

theorem State.advance_place (n : Nat) (s : State) : (State.advance n s).place = nextPlace^[n] s.place := by
  induction n generalizing s with
  | zero => rfl
  | succ n ih => rw [State.advance, ih, State.tick_place, Function.iterate_succ_apply]

/-! ### The timeline of a frame (R855, R860) -/

/-- The place at cycle `c` of line `l`. -/
def linePlace (l c : Nat) : PpuMode × Nat × Nat :=
  if 144 ≤ l then (.vblank, c, l)
  else if c < 80 then (.oamSearch, c, l)
  else if c < 252 then (.drawing, c - 80, l)
  else (.hblank, c - 252, l)

section

variable {m : PpuMode} {dot l c : Nat}

theorem nextPlace_counts (h : dot + 1 ≠ m.budget) : nextPlace (m, dot, l) = (m, dot + 1, l) := if_neg h

theorem nextPlace_ends (h : dot + 1 = m.budget) :
    nextPlace (m, dot, l) = ((afterMode m l).1, 0, (afterMode m l).2) := if_pos h

theorem linePlace_vblank (hl : 144 ≤ l) (c : Nat) : linePlace l c = (.vblank, c, l) := if_pos hl

theorem linePlace_oamSearch (hl : l < 144) (hc : c < 80) : linePlace l c = (.oamSearch, c, l) := by
  rw [linePlace, if_neg (by omega), if_pos hc]

theorem linePlace_drawing (hl : l < 144) (hdot : dot < 172) : linePlace l (dot + 80) = (.drawing, dot, l) := by
  rw [linePlace, if_neg (by omega), if_neg (by omega), if_pos (by omega), Nat.add_sub_cancel]

theorem linePlace_hblank (hl : l < 144) (dot : Nat) : linePlace l (dot + 252) = (.hblank, dot, l) := by
  rw [linePlace, if_neg (by omega), if_neg (by omega), if_neg (by omega), Nat.add_sub_cancel]

/-- Within a line the place goes on to the next cycle: the two mode changes of a visible line are at cycles 80 and 252. -/
theorem nextPlace_within_line (hc : c + 1 < 456) : nextPlace (linePlace l c) = linePlace l (c + 1) := by
  rcases Nat.lt_or_ge l 144 with hl | hl
  · rcases Nat.lt_or_ge c 80 with hoam | hoam
    · rw [linePlace_oamSearch hl hoam]
      by_cases hend : c = 79
      · rw [nextPlace_ends (by rw [hend]; rfl), hend]
        exact (linePlace_drawing hl (by decide)).symm
      · rw [nextPlace_counts (by simpa [PpuMode.budget] using hend), linePlace_oamSearch hl (by omega)]
    obtain ⟨d, rfl⟩ := Nat.exists_eq_add_of_le' hoam
    rcases Nat.lt_or_ge d 172 with hdraw | hdraw
    · rw [linePlace_drawing hl hdraw]
      by_cases hend : d = 171
      · rw [nextPlace_ends (by rw [hend]; rfl), hend]
        exact (linePlace_hblank hl 0).symm
      · rw [nextPlace_counts (by simpa [PpuMode.budget] using hend), Nat.add_right_comm,
          linePlace_drawing hl (by omega)]
    obtain ⟨d, rfl⟩ := Nat.exists_eq_add_of_le' hdraw
    rw [linePlace_hblank hl, nextPlace_counts (by simp only [PpuMode.budget]; omega)]
    exact (linePlace_hblank hl (d + 1)).symm
  · rw [linePlace_vblank hl, linePlace_vblank hl, nextPlace_counts (by simp only [PpuMode.budget]; omega)]

theorem nextPlace_line_end (hl : l + 1 < 154) : nextPlace (linePlace l 455) = linePlace (l + 1) 0 := by
  rcases Nat.lt_or_ge l 144 with hvis | hvis
  · rw [linePlace_hblank hvis 203, nextPlace_ends rfl, afterMode]
    by_cases hlast : l + 1 < 144
    · rw [if_pos hlast, linePlace_oamSearch hlast (by decide)]
    · rw [if_neg hlast, linePlace_vblank (by omega)]
  · rw [linePlace_vblank hvis, nextPlace_ends rfl, afterMode, if_neg (by omega), linePlace_vblank (by omega)]

end

theorem nextPlace_frame_end : nextPlace (linePlace 153 455) = linePlace 0 0 := rfl

/-- The place at cycle `n` of a frame: 456 cycles a line. -/
def framePlace (n : Nat) : PpuMode × Nat × Nat := linePlace (n / 456) (n % 456)

theorem nextPlace_framePlace {n : Nat} (hn : n < 70224) : nextPlace (framePlace n) = framePlace ((n + 1) % 70224) := by
  unfold framePlace
  by_cases hc : n % 456 + 1 < 456
  · rw [nextPlace_within_line hc]
    congr 1 <;> omega
  · have hend : n % 456 = 455 := by omega
    rw [hend]
    by_cases hl : n / 456 + 1 < 154
    · rw [nextPlace_line_end hl]
      congr 1 <;> omega
    · obtain rfl : n = 70223 := by omega
      exact nextPlace_frame_end

theorem iterate_nextPlace_framePlace (k n : Nat) (hn : n < 70224) :
    nextPlace^[k] (framePlace n) = framePlace ((n + k) % 70224) := by
  induction k with
  | zero => rw [Function.iterate_zero_apply, Nat.add_zero, Nat.mod_eq_of_lt hn]
  | succ k ih =>
    rw [Function.iterate_succ_apply', ih, nextPlace_framePlace (Nat.mod_lt _ (by decide)), Nat.mod_add_mod, Nat.add_assoc]

theorem linePlace_eq_framePlace {l c : Nat} (hc : c < 456) : linePlace l c = framePlace (456 * l + c) := by
  unfold framePlace
  congr 1 <;> omega

/-- Every legal place is that of some cycle of the frame (R854). -/
theorem State.exists_framePlace {s : State} (h : s.ppuOk) : ∃ n, n < 70224 ∧ s.place = framePlace n := by
  obtain ⟨hline, hdot, hvb, -⟩ := h
  suffices ∃ c, c < 456 ∧ s.place = linePlace s.line c by
    obtain ⟨c, hc, hplace⟩ := this
    exact ⟨456 * s.line + c, by omega, hplace.trans (linePlace_eq_framePlace hc)⟩
  cases hm : s.mode with
  | oamSearch =>
    have hvis : s.line < 144 := by simpa [hm] using hvb
    have hdot : s.dot < 80 := by simpa [hm, PpuMode.budget] using hdot
    exact ⟨s.dot, by omega, by rw [linePlace_oamSearch hvis hdot, State.place, hm]⟩
  | drawing =>
    have hvis : s.line < 144 := by simpa [hm] using hvb
    have hdot : s.dot < 172 := by simpa [hm, PpuMode.budget] using hdot
    exact ⟨s.dot + 80, by omega, by rw [linePlace_drawing hvis hdot, State.place, hm]⟩
  | hblank =>
    have hvis : s.line < 144 := by simpa [hm] using hvb
    have hdot : s.dot < 204 := by simpa [hm, PpuMode.budget] using hdot
    exact ⟨s.dot + 252, by omega, by rw [linePlace_hblank hvis, State.place, hm]⟩
  | vblank =>
    have hdot : s.dot < 456 := by simpa [hm, PpuMode.budget] using hdot
    exact ⟨s.dot, hdot, by rw [linePlace_vblank (hvb.1 hm), State.place, hm]⟩

/-! ### What the CPU and the PPU leave of each other (R856) -/

/-- Neither the buttons nor the cycle count are the CPU's. -/
theorem CpuEffect.host_eq {w : Prop} {s t : State} (h : CpuEffect w s t) :
    t.buttons = s.buttons ∧ t.cycleCount = s.cycleCount := by
  induction h with
  | refl => exact ⟨rfl, rfl⟩
  | setReg r v _ ih | setReg16 r v _ ih | write r v _ ih => simpa using ih
  | setF _ _ ih | setIo _ _ _ _ ih | setControl _ _ _ _ _ _ _ _ ih | setHaltBug _ _ _ ih | setIme _ _ _ ih =>
    exact ih

/-! ### What a line change and a mode change write (R857, R859) -/

section

variable {s : State} {a b k : Nat} {m : PpuMode}

theorem getLsbD_or_ite (hb : b < 8) (v : Byte) (c : Bool) (k : Nat) :
    (v ||| if c then 0x01#8 <<< b else 0#8).getLsbD k = (v.getLsbD k || k == b && c) := by
  cases c with
  | false => simp
  | true =>
    rw [if_pos rfl, Bool.and_true]
    exact getLsbD_setBit hb v k

/-- STAT with bit 2 put in its place. -/
theorem getLsbD_withLycBit (v : Byte) (c : Bool) (k : Nat) :
    ((v &&& 0xFB#8) ||| (if c then 0x04#8 else 0#8)).getLsbD k = if k = 2 then c else v.getLsbD k := by
  rw [show 0xFB#8 = ~~~(0x01#8 <<< 2) from rfl, show 0x04#8 = 0x01#8 <<< 2 from rfl, getLsbD_or_ite (by decide)]
  have hclear := getLsbD_resetBit 2 v k
  unfold resetBit at hclear
  rw [hclear]
  by_cases hk : k = 2
  · simp [hk]
  · simp [hk, bne, beq_false_of_ne hk]

/-- STAT with the mode number put in bits 1:0. -/
theorem getLsbD_withModeBits (v : Byte) (m : PpuMode) (k : Nat) :
    ((v &&& 0xFC#8) ||| m.number).getLsbD k = if k < 2 then (modeNumber m).testBit k else v.getLsbD k := by
  rcases Nat.lt_or_ge k 8 with hk | hk
  · rw [BitVec.getLsbD_or, BitVec.getLsbD_and]
    cases m <;> interval_cases k <;> simp +decide [PpuMode.number, modeNumber]
  · rw [BitVec.getLsbD_of_ge _ k hk, BitVec.getLsbD_of_ge v k hk, if_neg (by omega)]

theorem State.read_setIo_other (h : a ≠ 0xFF00 + k) (v : Byte) (s : State) :
    (s.setIo k v).mem.read a = s.mem.read a := Memory.read_write_other v h

theorem State.read_requestStat_other (h : a ≠ 0xFF0F) (b : Nat) (s : State) :
    (s.requestStat b).mem.read a = s.mem.read a := by
  unfold State.requestStat
  split
  · exact State.read_setIo_other h _ _
  · rfl

/-- A STAT request is bit 1 of IF, made where the select bit of STAT is set. -/
theorem State.getLsbD_if_requestStat (h : s.memOk) (b k : Nat) :
    ((s.requestStat b).io 0x0F).getLsbD k = ((s.io 0x0F).getLsbD k || k == 1 && (s.io 0x41).getLsbD b) := by
  unfold State.requestStat
  split
  next hb =>
    rw [State.request, State.io_setIo _ _ _ _ h, if_pos rfl, hb]
    exact getLsbD_or_ite (b := 1) (by decide) _ true k
  next hb => rw [Bool.eq_false_iff.2 hb, Bool.and_false, Bool.or_false]

/-! #### A line change -/

/-- LY, and STAT's bit 2: the comparison of LY with LYC. -/
def State.mirrorLine (s : State) (n : Nat) : State :=
  ({ s with line := n }.setIo 0x44 (BitVec.ofNat 8 n)).setIo 0x41
    ((s.io 0x41 &&& 0xFB#8) ||| (if BitVec.ofNat 8 n = s.io 0x45 then 0x04#8 else 0#8))

/-- R857: a line change is the mirror, and the STAT request on a match. -/
theorem State.setLine_eq (s : State) (n : Nat) :
    s.setLine n = if BitVec.ofNat 8 n = s.io 0x45 then (s.mirrorLine n).requestStat 6 else s.mirrorLine n := by
  have hstat : ({ s with line := n }.setIo 0x44 (BitVec.ofNat 8 n)).io 0x41 = s.io 0x41 :=
    State.read_setIo_other (by decide) _ _
  have hlyc : ({ s with line := n }.setIo 0x44 (BitVec.ofNat 8 n)).io 0x45 = s.io 0x45 :=
    State.read_setIo_other (by decide) _ _
  unfold State.setLine State.mirrorLine
  simp only [hstat, hlyc]

theorem State.mirrorLine_memOk (h : s.memOk) (n : Nat) : (s.mirrorLine n).memOk :=
  State.setIo_memOk _ _ _ (by decide) (State.setIo_memOk _ _ _ (by decide) h)

/-- The I/O cells of the mirror: LY and STAT, and the others as before. -/
theorem State.io_mirrorLine (h : s.memOk) (n k : Nat) :
    (s.mirrorLine n).io k =
      if k = 0x41 then (s.io 0x41 &&& 0xFB#8) ||| (if BitVec.ofNat 8 n = s.io 0x45 then 0x04#8 else 0#8)
      else if k = 0x44 then BitVec.ofNat 8 n else s.io k := by
  have hly : ({ s with line := n }.setIo 0x44 (BitVec.ofNat 8 n)).io k = if k = 0x44 then BitVec.ofNat 8 n else s.io k :=
    State.io_setIo { s with line := n } _ _ _ h
  rw [← hly]
  exact State.io_setIo _ _ _ _ (State.setIo_memOk { s with line := n } _ _ (by decide) h)

/-- Beyond IF a line change writes the mirror alone. -/
theorem State.read_setLine (h : a ≠ 0xFF0F) (s : State) (n : Nat) :
    (s.setLine n).mem.read a = (s.mirrorLine n).mem.read a := by
  rw [State.setLine_eq]
  split
  · exact State.read_requestStat_other h _ _
  · rfl

theorem State.io_setLine_ly (h : s.memOk) (n : Nat) : (s.setLine n).io 0x44 = BitVec.ofNat 8 n :=
  (State.read_setLine (by decide) s n).trans (State.io_mirrorLine h n 0x44)

theorem State.getLsbD_stat_setLine (h : s.memOk) (n k : Nat) :
    ((s.setLine n).io 0x41).getLsbD k =
      if k = 2 then decide (BitVec.ofNat 8 n = s.io 0x45) else (s.io 0x41).getLsbD k := by
  have hstat : (s.setLine n).io 0x41 = _ :=
    (State.read_setLine (by decide) s n).trans (State.io_mirrorLine h n 0x41)
  rw [hstat, if_pos rfl, ← getLsbD_withLycBit]
  simp only [decide_eq_true_eq]

theorem State.getLsbD_if_setLine (h : s.memOk) (n k : Nat) :
    ((s.setLine n).io 0x0F).getLsbD k = ((s.io 0x0F).getLsbD k ||
      (k == 1 && decide (BitVec.ofNat 8 n = s.io 0x45) && (s.io 0x41).getLsbD 6)) := by
  rw [State.setLine_eq]
  have hif : (s.mirrorLine n).io 0x0F = s.io 0x0F := State.io_mirrorLine h n 0x0F
  by_cases hmatch : BitVec.ofNat 8 n = s.io 0x45
  · have hsel : ((s.mirrorLine n).io 0x41).getLsbD 6 = (s.io 0x41).getLsbD 6 := by
      rw [State.io_mirrorLine h, if_pos rfl, if_pos hmatch]
      exact getLsbD_withLycBit _ true 6
    rw [if_pos hmatch, State.getLsbD_if_requestStat (State.mirrorLine_memOk h n), hif, hsel, decide_eq_true hmatch,
      Bool.and_true]
  · rw [if_neg hmatch, hif, decide_eq_false hmatch, Bool.and_false, Bool.false_and, Bool.or_false]

theorem State.read_setLine_other (h0F : a ≠ 0xFF0F) (h41 : a ≠ 0xFF41) (h44 : a ≠ 0xFF44) (s : State) (n : Nat) :
    (s.setLine n).mem.read a = s.mem.read a := by
  rw [State.read_setLine h0F, State.mirrorLine, State.read_setIo_other h41, State.read_setIo_other h44]

/-! #### A mode change -/

/-- STAT's bits 1:0: the mode number. -/
def State.mirrorMode (s : State) (m : PpuMode) : State :=
  { s with mode := m }.setIo 0x41 ((s.io 0x41 &&& 0xFC#8) ||| m.number)

/-- The requests of a mode entered (R859). -/
def State.requestMode (s : State) : PpuMode → State
  | .vblank => (s.request 0x01#8).requestStat 4
  | .hblank => s.requestStat 3
  | .oamSearch => s.requestStat 5
  | .drawing => s

theorem State.enterMode_eq (s : State) (m : PpuMode) : s.enterMode m = (s.mirrorMode m).requestMode m := by
  cases m <;> rfl

theorem State.mirrorMode_memOk (h : s.memOk) (m : PpuMode) : (s.mirrorMode m).memOk :=
  State.setIo_memOk _ _ _ (by decide) h

theorem State.io_mirrorMode (h : s.memOk) (m : PpuMode) (k : Nat) :
    (s.mirrorMode m).io k = if k = 0x41 then (s.io 0x41 &&& 0xFC#8) ||| m.number else s.io k :=
  State.io_setIo { s with mode := m } _ _ _ h

theorem State.read_requestMode_other (h : a ≠ 0xFF0F) (s : State) (m : PpuMode) :
    (s.requestMode m).mem.read a = s.mem.read a := by
  cases m with
  | vblank => exact (State.read_requestStat_other h _ _).trans (State.read_setIo_other h _ _)
  | hblank | oamSearch => exact State.read_requestStat_other h _ _
  | drawing => rfl

/-- Bit `k` of IF, `bit` before, once a mode has requested VBlank, and STAT where its select bit is set (R859). -/
def requestedBit (m : PpuMode) (stat : Byte) (k : Nat) (bit : Bool) : Bool :=
  bit || (k == 0 && decide (m = .vblank)) ||
    (k == 1 && ((decide (m = .vblank) && stat.getLsbD 4) || (decide (m = .hblank) && stat.getLsbD 3) ||
      (decide (m = .oamSearch) && stat.getLsbD 5)))

theorem State.getLsbD_if_requestMode (h : s.memOk) (m : PpuMode) (k : Nat) :
    ((s.requestMode m).io 0x0F).getLsbD k = requestedBit m (s.io 0x41) k ((s.io 0x0F).getLsbD k) := by
  cases m with
  | vblank =>
    have hstat : (s.request 0x01#8).io 0x41 = s.io 0x41 := State.read_setIo_other (by decide) _ _
    have hif : ((s.request 0x01#8).io 0x0F).getLsbD k = ((s.io 0x0F).getLsbD k || k == 0) := by
      rw [State.request, State.io_setIo _ _ _ _ h, if_pos rfl]
      simpa using getLsbD_or_ite (b := 0) (by decide) (s.io 0x0F) true k
    rw [State.requestMode, State.getLsbD_if_requestStat (State.request_memOk _ _ h), hstat, hif]
    simp [requestedBit]
  | hblank | oamSearch =>
    rw [State.requestMode, State.getLsbD_if_requestStat h]
    simp [requestedBit]
  | drawing => simp [State.requestMode, requestedBit]

theorem State.getLsbD_stat_enterMode (h : s.memOk) (m : PpuMode) (k : Nat) :
    ((s.enterMode m).io 0x41).getLsbD k = if k < 2 then (modeNumber m).testBit k else (s.io 0x41).getLsbD k := by
  have hstat : ((s.mirrorMode m).requestMode m).io 0x41 = (s.mirrorMode m).io 0x41 :=
    State.read_requestMode_other (by decide) _ _
  rw [State.enterMode_eq, hstat, State.io_mirrorMode h, if_pos rfl, getLsbD_withModeBits]

theorem State.getLsbD_if_enterMode (h : s.memOk) (m : PpuMode) (k : Nat) :
    ((s.enterMode m).io 0x0F).getLsbD k = requestedBit m (s.io 0x41) k ((s.io 0x0F).getLsbD k) := by
  have hif : (s.mirrorMode m).io 0x0F = s.io 0x0F := State.io_mirrorMode h m 0x0F
  have hsel (b : Nat) (hb : ¬ b < 2) : ((s.mirrorMode m).io 0x41).getLsbD b = (s.io 0x41).getLsbD b := by
    rw [State.io_mirrorMode h, if_pos rfl, getLsbD_withModeBits, if_neg hb]
  rw [State.enterMode_eq, State.getLsbD_if_requestMode (State.mirrorMode_memOk h m), hif]
  unfold requestedBit
  rw [hsel 4 (by decide), hsel 3 (by decide), hsel 5 (by decide)]

theorem State.read_enterMode_other (h0F : a ≠ 0xFF0F) (h41 : a ≠ 0xFF41) (s : State) (m : PpuMode) :
    (s.enterMode m).mem.read a = s.mem.read a := by
  rw [State.enterMode_eq, State.read_requestMode_other h0F]
  exact State.read_setIo_other h41 _ _

end

/-! ### The obligations on the PPU's state machine -/

/-- Settles O50: the place after n cycles is n steps of `nextPlace`, which goes through the cycles of the frame
in order. -/
theorem ppuTimeline : Obligations.PpuTimeline := by
  refine ⟨fun s n hm hd hl hn => ?_, fun s hs => ?_⟩
  · have hstart : s.place = framePlace 0 := by rw [State.place, hm, hd, hl]; rfl
    have hplace : (State.advance n s).place = framePlace n := by
      rw [State.advance_place, hstart, iterate_nextPlace_framePlace n 0 (by decide), Nat.zero_add, Nat.mod_eq_of_lt hn]
    simp only [State.place, framePlace, linePlace] at hplace
    split_ifs at hplace ⊢ <;> simp_all
  · obtain ⟨n, hn, hplace⟩ := State.exists_framePlace hs
    have hsame : (State.advance 70224 s).place = s.place := by
      rw [State.advance_place, hplace, iterate_nextPlace_framePlace 70224 n hn, Nat.add_mod_right, Nat.mod_eq_of_lt hn]
    simpa [State.place] using hsame

/-- Settles O51: the place runs by `nextPlace` alone, and an instruction's effect is on none of the PPU's state. -/
theorem ppuRunsByItself : Obligations.PpuRunsByItself := by
  refine ⟨fun s t n hm hd hl => ?_, fun i s t h => ?_, fun s n => State.advance_changes n s⟩
  · have hsame : (State.advance n s).place = (State.advance n t).place := by
      rw [State.advance_place, State.advance_place, State.place, State.place, hm, hd, hl]
    simpa [State.place] using hsame
  · obtain ⟨heff, -⟩ := exec_effect h
    obtain ⟨hmode, hdot, hline, hwin, hframe, hacc⟩ := heff.ppu_eq
    obtain ⟨hbuttons, hcount⟩ := heff.host_eq
    exact ⟨hmode, hdot, hline, hwin, hframe, hbuttons, hacc, hcount⟩

/-- Settles O52: a line change is its mirror and the request on a match, a mode change its mirror and its requests, and a
tick is one of the transitions above. -/
theorem ppuMirrorAndRequests : Obligations.PpuMirrorAndRequests := by
  refine ⟨fun s n h => ⟨State.setLine_line s n, State.io_setLine_ly h n, State.getLsbD_stat_setLine h n,
      State.getLsbD_if_setLine h n, fun a h0F h41 h44 => State.read_setLine_other h0F h41 h44 s n⟩,
    fun s m h => ⟨State.enterMode_mode s m, State.getLsbD_stat_enterMode h m, State.getLsbD_if_enterMode h m,
      fun a h0F h41 => State.read_enterMode_other h0F h41 s m⟩,
    fun s hd => State.tick_counts (modeCycles_eq_budget s.mode ▸ hd),
    fun s hm hd hl => ?_, fun s hm hd hl => ?_,
    fun s => State.tick_oamSearch, fun s => State.tick_drawing, fun s => State.tick_vblank, fun s => State.tick_wrap⟩
  · rw [State.tick_hblank hm hd, if_pos hl]
  · rw [State.tick_hblank hm hd, if_neg (by omega)]

end Sys2Proof.Machine

namespace Sys2Proof.Machine

/-! ## The PPU's pixels (61_ppu) -/

/-! ### Bits of a byte -/

theorem bitOf_eq_one_iff {v : Byte} {k : Nat} : bitOf v k = 1 ↔ v.getLsbD k = true := by
  rw [bitOf_eq]
  cases v.getLsbD k <;> simp

theorem bitOf_eq_zero_iff {v : Byte} {k : Nat} : bitOf v k = 0 ↔ v.getLsbD k = false := by
  rw [bitOf_eq]
  cases v.getLsbD k <;> simp

theorem State.read_lcdc (s : State) : s.read 0xFF40#16 = s.lcdc := rfl

section

variable {s : State} {ly x : Nat}

/-! ### Background and window (R871, R872) -/

theorem State.windowCovers_iff :
    s.windowCovers ly x = true ↔ bitOf (s.read 0xFF40#16) 0 = 1 ∧ windowAt s ly x := by
  unfold windowAt State.windowCovers
  rw [bitOf_eq_one_iff, bitOf_eq_one_iff]
  simp only [Bool.and_eq_true, decide_eq_true_eq, and_assoc]
  rfl

/-- The tile number at a column and row of a map, as the bus shows it. -/
theorem mapByte_eq (s : State) (sel : Nat) (high : Bool) {col row : Nat} (hsel : sel = high.toNat) (hcol : col < 32)
    (hrow : row < 32) : mapByte s sel col row = s.vram ((if high then 0x1C00 else 0x1800) + row * 32 + col) := by
  subst hsel
  unfold mapByte
  rw [← State.read_vram _ _ (by split <;> omega)]
  congr 2
  cases high <;> simp <;> omega

/-- The tile data of both addressing modes as one offset from 0x8000 (R871). -/
theorem tileBase_eq (s : State) (t : Byte) :
    (if bitOf (s.read 0xFF40#16) 4 = 1 then (0x8000 + 16 * t.toNat : Int) else 0x9000 + 16 * t.toInt) =
      0x8000 + tileBase s.lcdc t := by
  have hlow := BitVec.le_toInt t
  rw [State.read_lcdc, tileBase]
  by_cases h : s.lcdc.getLsbD 4 = true
  · rw [if_pos (bitOf_eq_one_iff.2 h), if_pos h]
    simp
  · rw [if_neg (mt bitOf_eq_one_iff.1 h), if_neg h]
    omega

theorem tileBase_lt (lcdc t : Byte) : tileBase lcdc t < 0x17F1 := by
  have hhigh := BitVec.toInt_lt (x := t)
  have := t.isLt
  unfold tileBase
  split <;> omega

theorem State.tilePixel_toNat (s : State) (t : Byte) (cx : Nat) {cy : Nat} (hcy : cy < 8) :
    (s.tilePixel t cx cy).toNat = tilePixelAt s t cx cy := by
  have hbase := tileBase_lt s.lcdc t
  have hread (n : Nat) (hn : n < 0x2000) : s.vram n = s.read (BitVec.ofInt 16 (0x8000 + n)) := by
    rw [← State.read_vram s n hn, ← BitVec.ofInt_natCast]
    rfl
  unfold State.tilePixel tilePixelAt
  rw [pixelOf_toNat, tileBase_eq, hread _ (by omega), hread _ (by omega)]
  simp only [Nat.cast_add, Nat.cast_mul, Nat.cast_one, Nat.cast_ofNat, Int.add_assoc]

theorem State.mapPixel_toNat (s : State) {sel : Nat} {high : Bool} {px py : Nat} (hsel : sel = high.toNat)
    (hpx : px < 256) (hpy : py < 256) :
    (s.mapPixel high px py).toNat = tilePixelAt s (mapByte s sel (px / 8) (py / 8)) (px % 8) (py % 8) := by
  rw [mapByte_eq s sel high hsel (by omega) (by omega), ← State.tilePixel_toNat s _ _ (by omega)]
  rfl

theorem State.bgIndex_off (h : bitOf (s.read 0xFF40#16) 0 = 0) : s.bgIndex ly x = 0 := by
  have hoff : ¬ s.lcdc.getLsbD 0 = true := Bool.eq_false_iff.1 (bitOf_eq_zero_iff.1 h)
  unfold State.bgIndex
  rw [if_neg fun hw => hoff (bitOf_eq_one_iff.1 (State.windowCovers_iff.1 hw).1), if_neg hoff]
  rfl

theorem State.bgIndex_window (hon : bitOf (s.read 0xFF40#16) 0 = 1) (hw : windowAt s ly x) :
    s.bgIndex ly x = s.mapPixel (s.lcdc.getLsbD 6) (x + 7 - (s.io 0x4B).toNat) s.winLine :=
  if_pos (State.windowCovers_iff.2 ⟨hon, hw⟩)

theorem State.bgIndex_background (hon : bitOf (s.read 0xFF40#16) 0 = 1) (hw : ¬ windowAt s ly x) :
    s.bgIndex ly x =
      s.mapPixel (s.lcdc.getLsbD 3) ((x + (s.io 0x43).toNat) % 256) ((ly + (s.io 0x42).toNat) % 256) := by
  unfold State.bgIndex
  rw [if_neg (fun h => hw (State.windowCovers_iff.1 h).2)]
  exact if_pos (bitOf_eq_one_iff.1 hon)

/-! ### The render of a line: the window's line counter (R872) -/

theorem State.render_beyond (h : 143 < ly) : s.render ly = s := if_pos h

theorem State.render_visible (h : ly ≤ 143) :
    s.render ly = { s with
      frame := s.frame.put ly (s.lineShades ly)
      winLine := if (List.range 160).any (s.windowCovers ly) then s.winLine + 1 else s.winLine } :=
  if_neg (Nat.not_lt.2 h)

theorem State.render_counts_window (hly : ly ≤ 143) (hx : x < 160) (hon : bitOf (s.read 0xFF40#16) 0 = 1)
    (hw : windowAt s ly x) : (s.render ly).winLine = s.winLine + 1 := by
  rw [State.render_visible hly]
  exact if_pos (List.any_eq_true.2 ⟨x, List.mem_range.2 hx, State.windowCovers_iff.2 ⟨hon, hw⟩⟩)

theorem State.render_keeps_window (hly : ly ≤ 143)
    (h : ∀ x, x < 160 → ¬ (bitOf (s.read 0xFF40#16) 0 = 1 ∧ windowAt s ly x)) :
    (s.render ly).winLine = s.winLine := by
  rw [State.render_visible hly]
  refine if_neg fun hany => ?_
  obtain ⟨x, hx, hcovers⟩ := List.any_eq_true.1 hany
  exact h x (List.mem_range.1 hx) (State.windowCovers_iff.1 hcovers)

end

/-- Settles O53: each case of `bgIndex` is a pixel of a tile map, which the bus reads show byte by byte. -/
theorem backgroundAndWindow : Obligations.BackgroundAndWindow := by
  intro s ly x hly hx hwin
  have hbit (k : Nat) : bitOf (s.read 0xFF40#16) k = (s.lcdc.getLsbD k).toNat := bitOf_eq _ _
  refine ⟨State.bgIndex_off, fun hon hw => ?_, fun hon hw => ?_, fun h => ?_,
    State.render_keeps_window (by omega), fun hm hd hl => ?_⟩
  · have hcol : x + 7 - (s.io 0x4B).toNat < 256 := by omega
    rw [State.bgIndex_window hon hw, State.mapPixel_toNat s (hbit 6) hcol hwin]
    rfl
  · rw [State.bgIndex_background hon hw,
      State.mapPixel_toNat s (hbit 3) (Nat.mod_lt _ (by decide)) (Nat.mod_lt _ (by decide)),
      Nat.mod_mod_of_dvd _ (by decide), Nat.mod_mod_of_dvd _ (by decide)]
    rfl
  · exact State.render_counts_window (by omega) hx h.1 h.2
  · rw [State.tick_wrap hm hd hl, State.enterMode_winLine, State.setLine_winLine]

/-! ### Sprites (R873 to R875) -/

theorem State.sprite_eq_spriteAt (s : State) {k : Nat} (hk : k < 40) : s.sprite k = spriteAt s k := by
  have hread (j : Nat) (hj : j < 4) : s.oam (4 * k + j) = s.read (BitVec.ofNat 16 (0xFE00 + 4 * k + j)) := by
    rw [Nat.add_assoc, State.read_oam s _ (by omega)]
  unfold State.sprite spriteAt
  congr 1
  · exact hread 0 (by decide)
  · exact hread 1 (by decide)
  · exact hread 2 (by decide)
  · exact hread 3 (by decide)

theorem State.spriteHeight_eq (s : State) : s.spriteHeight = spriteRows s := by
  unfold State.spriteHeight spriteRows
  simp only [bitOf_eq_one_iff]
  rfl

/-- Whether an OAM entry's rows cover a line (R874). -/
def State.covers (s : State) (ly : Nat) (q : Sprite) : Bool :=
  q.y.toNat ≤ ly + 16 && ly + 16 < q.y.toNat + s.spriteHeight

theorem State.covers_sprite (s : State) (ly : Nat) {k : Nat} (hk : k < 40) :
    s.covers ly (s.sprite k) = coversLine s ly k := by
  rw [State.sprite_eq_spriteAt s hk, State.covers, State.spriteHeight_eq]
  rfl

/-- The indices of the sprites of a line, sprites being on. -/
def lineSprites (s : State) (ly : Nat) : List Nat := ((List.range 40).filter (coversLine s ly)).take 10

theorem State.spritesOn_off {s : State} (h : bitOf (s.read 0xFF40#16) 1 = 0) (ly : Nat) : s.spritesOn ly = [] :=
  if_neg (Bool.eq_false_iff.1 (bitOf_eq_zero_iff.1 h))

theorem State.spritesOn_on {s : State} (h : bitOf (s.read 0xFF40#16) 1 = 1) (ly : Nat) :
    s.spritesOn ly = (lineSprites s ly).map s.sprite := by
  have hcovers : (List.range 40).filter (s.covers ly ∘ s.sprite) = (List.range 40).filter (coversLine s ly) :=
    List.filter_congr fun k hk => State.covers_sprite s ly (List.mem_range.1 hk)
  calc s.spritesOn ly = (((List.range 40).map s.sprite).filter (s.covers ly)).take 10 := if_pos (bitOf_eq_one_iff.1 h)
    _ = (lineSprites s ly).map s.sprite := by rw [List.filter_map, hcovers, lineSprites, List.map_take]

/-- The first `m` numbers below `n` with a property: those with fewer than `m` such numbers before them. -/
theorem mem_take_filter_range {p : Nat → Bool} {m k : Nat} (n : Nat) :
    k ∈ ((List.range n).filter p).take m ↔ k < n ∧ p k = true ∧ ((List.range k).filter p).length < m := by
  induction n with
  | zero => simp
  | succ n ih =>
    rw [List.range_succ, List.filter_append, List.take_append, List.mem_append, ih]
    by_cases hk : k = n
    · subst hk
      by_cases hp : p k = true
      · rcases hm : m - ((List.range k).filter p).length with _ | d <;> simp [hp] <;> omega
      · simp [hp]
    · have hnot : k ∉ ([n].filter p).take (m - ((List.range n).filter p).length) := fun h =>
        hk (List.mem_singleton.1 (List.mem_of_mem_filter (List.mem_of_mem_take h)))
      have hlt : k < n + 1 ↔ k < n := by omega
      simp only [hnot, or_false, hlt]

/-- Settles O54: the sprites of a line are those of `lineSprites`, a sorted list of indices. -/
theorem tenSpritesPerLine : Obligations.TenSpritesPerLine := by
  refine fun s ly => ⟨fun k => State.sprite_eq_spriteAt s, fun h => State.spritesOn_off h ly,
    fun h => ⟨lineSprites s ly, State.spritesOn_on h ly, ?_, List.length_take_le _ _,
      fun k => mem_take_filter_range 40⟩⟩
  exact (List.pairwise_lt_range.filter _).take

/-! ### The colour of a sprite and the shade of a pixel (R875 to R877) -/

section

variable {s : State} {sprites : List Sprite} {q : Sprite} {ly x : Nat}

theorem and_evenMask_toNat : ∀ t : Byte, (t &&& 0xFE#8).toNat = t.toNat / 2 * 2 := by decide

theorem State.spriteIndex_outside (h : ¬ (q.x.toNat ≤ x + 8 ∧ x + 8 < q.x.toNat + 8)) : s.spriteIndex q ly x = 0 :=
  if_neg h

theorem State.spriteIndex_toNat (hx : q.x.toNat ≤ x + 8 ∧ x + 8 < q.x.toNat + 8)
    (hrow : ly + 16 < q.y.toNat + spriteRows s) : (s.spriteIndex q ly x).toNat = spritePixelAt s q ly x := by
  have hread (n : Nat) (hn : n < 0x2000) : s.vram n = s.read (BitVec.ofNat 16 (0x8000 + n)) :=
    (State.read_vram s n hn).symm
  have hrows : spriteRows s ≤ 16 := by
    unfold spriteRows
    split <;> decide
  have htile := q.tile.isLt
  simp only [State.spriteIndex, if_pos hx, pixelOf_toNat, spritePixelAt, State.spriteHeight_eq, State.read_lcdc,
    bitOf_eq_one_iff, apply_ite BitVec.toNat, and_evenMask_toNat]
  rw [hread _ (by split_ifs <;> omega), hread _ (by split_ifs <;> omega)]
  simp only [Nat.add_assoc]

/-- No sprite has a colour at the pixel: the background's shade. -/
theorem State.pixelShade_background (h : ∀ q ∈ sprites, s.spriteIndex q ly x = 0) :
    s.pixelShade sprites ly x = shadeOf (s.io 0x47) (s.bgIndex ly x) := by
  have hnone : sprites.find? (fun q => s.spriteIndex q ly x != 0#2) = none :=
    List.find?_eq_none.2 fun q hq => by simp [h q hq]
  unfold State.pixelShade
  rw [hnone]

/-- The shade that a sprite with a colour at the pixel gives it (R876). -/
def State.spriteShade (s : State) (q : Sprite) (ly x : Nat) : BitVec 2 :=
  if q.attr.getLsbD 7 = true ∧ s.bgIndex ly x ≠ 0 then shadeOf (s.io 0x47) (s.bgIndex ly x)
  else shadeOf (if q.attr.getLsbD 4 = true then s.io 0x49 else s.io 0x48) (s.spriteIndex q ly x)

theorem State.pixelShade_sprite (h : sprites.find? (fun q => s.spriteIndex q ly x != 0#2) = some q) :
    s.pixelShade sprites ly x = s.spriteShade q ly x := by
  have hcond : (!q.attr.getLsbD 7 || decide (s.bgIndex ly x = 0#2)) = true ↔
      ¬ (q.attr.getLsbD 7 = true ∧ s.bgIndex ly x ≠ 0) := by
    simp [or_iff_not_imp_left]
  unfold State.pixelShade State.spriteShade
  rw [h]
  simp only [hcond, ite_not]

theorem State.spriteShade_toNat (s : State) (q : Sprite) (ly x : Nat) :
    (s.spriteShade q ly x).toNat =
      if q.attr.getLsbD 7 = true ∧ s.bgIndex ly x ≠ 0 then shadeBits (s.read 0xFF47#16) (s.bgIndex ly x).toNat
      else shadeBits (if q.attr.getLsbD 4 = true then s.read 0xFF49#16 else s.read 0xFF48#16)
        (s.spriteIndex q ly x).toNat := by
  unfold State.spriteShade
  rw [apply_ite BitVec.toNat, shadeOf_toNat, shadeOf_toNat]
  rfl

end

/-- Settles O55: the first sprite that `find?` gives decides, by `spriteShade`; where it gives none, the background. -/
theorem spritePriority : Obligations.SpritePriority := by
  refine fun s sprites ly x => ⟨fun k => State.sprite_eq_spriteAt s, fun h => ?_,
    fun before after q hsplit hbefore hq => ?_, fun q => State.spriteIndex_outside, fun q hx _ => State.spriteIndex_toNat hx⟩
  · rw [State.pixelShade_background h, shadeOf_toNat]
    rfl
  · have hfirst : sprites.find? (fun q => s.spriteIndex q ly x != 0#2) = some q :=
      List.find?_eq_some_iff_append.2 ⟨by simpa using hq, before, after, hsplit, fun p hp => by simp [hbefore p hp]⟩
    rw [State.pixelShade_sprite hfirst, State.spriteShade_toNat]

end Sys2Proof.Machine

namespace Sys2Proof.Machine

/-! ## The frame buffer (R877, R879, R902) -/

section

variable {s t : State} {ly x y k : Nat}

/-- The bytes of a pixel on the host's side: four from 4 * (160 * y + x) on. -/
theorem State.frameByte_pixel (s : State) (hx : x < 160) (hk : k < 4) :
    s.frameByte (4 * (160 * y + x) + k) = (pixelBytes (s.frame.pixel x y)).getD k 0 := by
  unfold State.frameByte
  congr 3 <;> omega

/-- A line put into the frame buffer has its own pixels, and no other line has others. -/
theorem Frame.pixel_put (fr : Frame) (px : List (BitVec 2)) :
    (fr.put ly px).pixel x y = if y = ly then px[x]? else fr.pixel x y := by
  unfold Frame.pixel
  rw [Frame.find_put]
  split_ifs <;> rfl

theorem State.lineShades_getElem? (s : State) (hx : x < 160) :
    (s.lineShades ly)[x]? = some (s.pixelShade (s.spritesOn ly) ly x) := by
  simp [State.lineShades, hx]

theorem State.render_pixel_own (hly : ly ≤ 143) (hx : x < 160) :
    (s.render ly).frame.pixel x ly = some (s.pixelShade (s.spritesOn ly) ly x) := by
  rw [State.render_visible hly]
  exact (Frame.pixel_put _ _).trans ((if_pos rfl).trans (s.lineShades_getElem? hx))

theorem State.render_pixel_other (hly : ly ≤ 143) (hy : y ≠ ly) :
    (s.render ly).frame.pixel x y = s.frame.pixel x y := by
  rw [State.render_visible hly]
  exact (Frame.pixel_put _ _).trans (if_neg hy)

/-- A shade is the background's for its index, or that of a sprite of the line for its own. -/
theorem State.pixelShade_cases (s : State) (sprites : List Sprite) (ly x : Nat) :
    (s.pixelShade sprites ly x).toNat = shadeBits (s.read 0xFF47#16) (s.bgIndex ly x).toNat ∨
      ∃ q ∈ sprites, (s.pixelShade sprites ly x).toNat =
        shadeBits (if bitOf q.attr 4 = 1 then s.read 0xFF49#16 else s.read 0xFF48#16) (s.spriteIndex q ly x).toNat := by
  cases hfirst : sprites.find? (fun q => s.spriteIndex q ly x != 0#2) with
  | none =>
    have hall : ∀ q ∈ sprites, s.spriteIndex q ly x = 0 := fun q hq => by
      simpa using List.find?_eq_none.1 hfirst q hq
    rw [State.pixelShade_background hall, shadeOf_toNat]
    exact .inl rfl
  | some q =>
    rw [State.pixelShade_sprite hfirst, State.spriteShade_toNat]
    by_cases hbehind : q.attr.getLsbD 7 = true ∧ s.bgIndex ly x ≠ 0
    · exact .inl (if_pos hbehind)
    · refine .inr ⟨q, List.mem_of_find?_eq_some hfirst, (if_neg hbehind).trans ?_⟩
      simp only [bitOf_eq_one_iff]

/-! ### What else writes the frame buffer: nothing (R879) -/

/-- The counter of cycles has no part in a render. -/
theorem State.render_frame_withDot (s : State) (dot : Nat) (ly : Nat) :
    ({ s with dot := dot }.render ly).frame = (s.render ly).frame := by
  unfold State.render
  split <;> rfl

theorem State.tick_frame_drawing (hm : s.mode = .drawing) (hd : s.dot = 171) :
    s.tick.frame = (s.render s.line).frame := by
  rw [State.tick_drawing hm hd, State.enterMode_frame, State.render_frame_withDot]

theorem State.modeEnd_frame (h : s.mode ≠ .drawing) : s.modeEnd.frame = s.frame := by
  cases hm : s.mode with
  | oamSearch => rw [State.modeEnd_oamSearch hm, State.enterMode_frame]
  | drawing => exact absurd hm h
  | hblank => rw [State.modeEnd_hblank hm, State.enterMode_frame, State.setLine_frame]
  | vblank =>
    rw [State.modeEnd_vblank hm]
    split_ifs
    · rw [State.enterMode_frame, State.setLine_frame]
    · rw [State.setLine_frame]

theorem State.tick_frame_other (h : ¬ (s.mode = .drawing ∧ s.dot = 171)) : s.tick.frame = s.frame := by
  by_cases hd : s.dot + 1 = s.mode.budget
  · rw [State.tick_ends hd]
    refine State.modeEnd_frame (s := { s with dot := 0 }) fun hm => h ⟨hm, ?_⟩
    have hm : s.mode = .drawing := hm
    simpa [hm, PpuMode.budget] using hd
  · rw [State.tick_counts hd]

theorem State.cpuStep_frame (h : s.cpuStep = .next t) : t.frame = s.frame :=
  have ⟨_, _, _, _, hframe, _⟩ := (State.cpuStep_effect h).1.ppu_eq
  hframe

/-- A load that succeeds is a long enough image, its cartridge and a reset (R260, R903). -/
theorem State.loadRom_eq_ok {bytes : List Byte} (h : s.loadRom bytes = .ok t) :
    0x150 ≤ bytes.length ∧ t = { s.resetMachine with cart := some (Cart.fromImage bytes) } := by
  rcases Nat.lt_or_ge bytes.length 0x150 with hlen | hlen
  · rw [State.loadRom_short hlen] at h
    cases h
  · rw [State.loadRom_long hlen] at h
    cases h
    exact ⟨hlen, rfl⟩

theorem State.loadRom_frame {bytes : List Byte} (h : s.loadRom bytes = .ok t) : t.frame = s.frame := by
  rw [(State.loadRom_eq_ok h).2]
  rfl

theorem State.setInput_frame (s : State) (code : Nat) (pressed : Bool) : (s.setInput code pressed).frame = s.frame := by
  unfold State.setInput
  split_ifs <;> rfl

/-! ### What the host sees of it (R902) -/

theorem State.getPixels_length (s : State) : s.getPixels.length = 92160 := by
  rw [State.getPixels, List.length_map, List.length_range]

theorem State.getPixels_getElem? (s : State) (hk : k < 92160) : s.getPixels[k]? = some (s.frameByte k) := by
  rw [State.getPixels, List.getElem?_map, List.getElem?_range hk]
  rfl

end

/-- Settles O56: the render puts one line of shades, whose bytes the host reads by `pixelBytes`; no other operation puts
one. -/
theorem renderWritesItsRow : Obligations.RenderWritesItsRow := by
  intro s ly x y _ hx hy
  refine ⟨State.render_beyond, State.render_changes s ly, fun hly ⟨x', hx', hon, hw⟩ =>
      State.render_counts_window hly hx' hon hw, fun hly hne k hk => ?_, fun hly => ?_,
    fun _ => State.pixelShade_cases s _ ly x, State.tick_frame_drawing, State.tick_frame_other,
    fun t => State.cpuStep_frame, rfl, fun bytes t => State.loadRom_frame, State.setInput_frame s,
    State.getPixels_length s, fun k hk => State.getPixels_getElem? s (by omega)⟩
  · rw [State.frameByte_pixel _ hx hk, State.frameByte_pixel _ hx hk, State.render_pixel_other hly hne]
  · have hbyte (k : Nat) (hk : k < 4) : (s.render ly).frameByte (4 * (160 * ly + x) + k) =
        (pixelBytes (some (s.pixelShade (s.spritesOn ly) ly x))).getD k 0 := by
      rw [State.frameByte_pixel _ hx hk, State.render_pixel_own hly hx]
    exact ⟨hbyte 0 (by decide), hbyte 1 (by decide), hbyte 2 (by decide), hbyte 3 (by decide)⟩

end Sys2Proof.Machine

namespace Sys2Proof.Machine

/-! ## The driver and the host (62_host_and_frame, 70_reset_and_hazards) -/

section

variable {s t u : State}

/-! ### A pass of the driver's loop (R901) -/

/-- A pass is a CPU step, the PPU's advance by its count, and both counters. -/
theorem State.driverPass_eq (h : s.cpuStep = .next t) :
    s.driverPass = .next { State.advance t.cycles t with
      frameAcc := s.frameAcc + t.cycles, cycleCount := s.cycleCount + t.cycles } := by
  obtain ⟨heff, -⟩ := State.cpuStep_effect h
  obtain ⟨-, -, -, -, -, hacc⟩ := heff.ppu_eq
  obtain ⟨-, hcount⟩ := heff.host_eq
  rw [State.driverPass, h, thenState_next, State.afterCpu, State.advance_frameAcc, State.advance_cycleCount, hacc, hcount]

/-- Every pass goes on, counting at least 4 and at most 24 cycles, all of them in both counters (R801, R901). -/
theorem State.exists_driverPass (s : State) :
    ∃ t n, s.driverPass = .next t ∧ 4 ≤ n ∧ n ≤ 24 ∧
      t.frameAcc = s.frameAcc + n ∧ t.cycleCount = s.cycleCount + n := by
  obtain ⟨m, hm⟩ := s.exists_cpuStep_next
  have hcounts : ∀ n ∈ stepCounts, 4 ≤ n ∧ n ≤ 24 := by decide
  obtain ⟨h4, h24⟩ := hcounts _ (State.cpuStep_effect hm).2
  exact ⟨_, m.cycles, State.driverPass_eq hm, h4, h24, rfl, rfl⟩

/-! ### The loop (R901) -/

/-- With fuel for the rest of the frame the loop ends at the first pass at or beyond the budget. -/
theorem exists_runFrameLoop {fuel : Nat} (hfuel : Config.cyclesPerFrame ≤ s.frameAcc + 4 * fuel)
    (hacc : s.frameAcc < Config.cyclesPerFrame + 24) :
    ∃ u, runFrameLoop fuel s = .next u ∧ Passes s u ∧ Config.cyclesPerFrame ≤ u.frameAcc ∧
      u.frameAcc < Config.cyclesPerFrame + 24 ∧ u.cycleCount + s.frameAcc = s.cycleCount + u.frameAcc := by
  induction fuel generalizing s with
  | zero => exact ⟨s, rfl, .done s, hfuel, hacc, rfl⟩
  | succ fuel ih =>
    by_cases hbelow : s.frameAcc < Config.cyclesPerFrame
    · obtain ⟨m, n, hm, h4, h24, hmacc, hmcount⟩ := s.exists_driverPass
      obtain ⟨u, hu, hpasses, hdone, hexcess, hcount⟩ := ih (s := m) (by omega) (by omega)
      refine ⟨u, ?_, .pass s m u hbelow hm hpasses, hdone, hexcess, by omega⟩
      rw [runFrameLoop, if_pos hbelow, hm]
      exact hu
    · exact ⟨s, if_neg hbelow, .done s, Nat.le_of_not_lt hbelow, hacc, rfl⟩

/-- `run_frame` from a state within a frame's budget. -/
theorem State.exists_runFrame (h : s.frameAcc < Config.cyclesPerFrame) :
    ∃ u, s.runFrame = .next { u with frameAcc := u.frameAcc - Config.cyclesPerFrame } ∧ Passes s u ∧
      Config.cyclesPerFrame ≤ u.frameAcc ∧ u.frameAcc < Config.cyclesPerFrame + 24 ∧
      u.cycleCount + s.frameAcc = s.cycleCount + u.frameAcc := by
  obtain ⟨u, hu, hrest⟩ := exists_runFrameLoop (s := s) (fuel := Config.cyclesPerFrame / 4)
    (by simp only [Config.cyclesPerFrame]; omega) (by omega)
  exact ⟨u, by rw [State.runFrame, hu, thenState_next], hrest⟩

theorem State.closeFrame_below (h : s.frameAcc < Config.cyclesPerFrame) : s.closeFrame = s := if_neg (Nat.not_le.2 h)

theorem State.closeFrame_done (h : Config.cyclesPerFrame ≤ s.frameAcc) :
    s.closeFrame = { s with frameAcc := s.frameAcc - Config.cyclesPerFrame } := if_pos h

/-- A step is a pass and the end of the frame. -/
theorem step_of_driverPass (h : s.driverPass = .next t) : step s = .next t.closeFrame := by
  rw [step, State.driverStep, h, thenState_next]

/-- Passes of the loop lead from a legal state to one that is legal once a used-up frame is taken off. -/
theorem State.Inv.closeFrame_of_passes (hs : s.Inv) (h : Passes s u) : u.closeFrame.Inv := by
  induction h with
  | done s => rwa [State.closeFrame_below hs.driver]
  | pass s m u _ hm hpasses ih =>
    have hstep : m.closeFrame.Inv := stepKeepsInvariant s _ hs (step_of_driverPass hm)
    by_cases hbelow : m.frameAcc < Config.cyclesPerFrame
    · rw [State.closeFrame_below hbelow] at hstep
      exact ih hstep
    · cases hpasses with
      | done => exact hstep
      | pass _ _ _ hgo => exact absurd hgo hbelow

/-! ### The cartridge of a load and a reset (R260, R291) -/

/-- A size of the table R257, or MBC2's (R281). -/
theorem cartRamSize_mem (t r : Byte) : cartRamSize t r ∈ [0, 512, 0x800, 0x2000, 0x8000, 0x10000, 0x20000] := by
  unfold cartRamSize ramSizeOf
  split_ifs <;> simp

theorem romBanksOf_eq_two_pow (code : Byte) (len : Nat) : ∃ k, romBanksOf code len = 2 ^ (k + 1) := by
  rcases Nat.lt_or_ge 8 code.toNat with h | h
  · exact (romBanksOf_length h len).1
  · exact ⟨code.toNat, by rw [romBanksOf_code h, Nat.pow_succ']⟩

theorem Controller.sameKind_self (k : Controller) : k.sameKind k = true := by
  cases k <;> rfl

/-- The power-on registers are in their ranges (R291). -/
theorem controllerOf_ok (t : Byte) : (controllerOf t).ok t := by
  unfold controllerOf
  split_ifs <;> simp [Controller.ok]

/-- The type codes of MBC2 give 512 cells (R281). -/
theorem cartRamSize_of_mbc2 {t : Byte} {r : Mbc2} (h : controllerOf t = .mbc2 r) (code : Byte) :
    cartRamSize t code = 512 := by
  unfold controllerOf at h
  split_ifs at h with _ hmbc2
  exact if_pos hmbc2

theorem Controller.eq_mbc2_of_sameKind {k : Controller} {r : Mbc2} (h : k.sameKind (.mbc2 r) = true) :
    ∃ q, k = .mbc2 q := by
  cases k with
  | mbc2 q => exact ⟨q, rfl⟩
  | romOnly | mbc1 | mbc3 | mbc5 => cases h

theorem Cart.fromImage_ok {bytes : List Byte} (h : 0x150 ≤ bytes.length) : (Cart.fromImage bytes).Ok := {
  len := h
  banks := romBanksOf_eq_two_pow _ _
  size := cartRamSize_mem _ _
  img := ⟨Memory.ofBytes_wf 0 bytes, by simpa [Cart.fromImage] using Memory.ofBytes_keysIn 0 bytes⟩
  ram := ⟨rfl, rfl⟩
  kind := Controller.sameKind_self _
  ctrl := controllerOf_ok _
  mbc2 := fun _ hr => ⟨cartRamSize_of_mbc2 hr _, rfl⟩ }

/-- A reset keeps the cartridge legal: the controller of its type code at power-on, RAM and image as they were. -/
theorem Cart.Ok.powerOn {c : Cart} (h : c.Ok) : c.powerOn.Ok := { h with
  kind := Controller.sameKind_self _
  ctrl := controllerOf_ok _
  mbc2 := fun r hr =>
    have hr : controllerOf c.typeCode = .mbc2 r := hr
    have ⟨q, hq⟩ := Controller.eq_mbc2_of_sameKind (hr ▸ h.kind)
    h.mbc2 q hq }

/-! ### What the host's operations keep -/

theorem State.Inv.resetMachine (h : s.Inv) : s.resetMachine.Inv := { resetMeetsInvariant with
  cart := fun c hc => by
    obtain ⟨c', hc', rfl⟩ := Option.map_eq_some_iff.1 hc
    exact (h.cart c' hc').powerOn
  frame := h.frame }

theorem State.Inv.loadRom (h : s.Inv) {bytes : List Byte} (hload : s.loadRom bytes = .ok t) : t.Inv := by
  obtain ⟨hlen, rfl⟩ := State.loadRom_eq_ok hload
  exact { h.resetMachine with
    cart := fun c hc => by
      cases hc
      exact Cart.fromImage_ok hlen }

/-- A button changes no more than the buttons and the end of STOP (R909). -/
theorem State.setInput_changes (s : State) (code : Nat) (pressed : Bool) :
    s.setInput code pressed =
      { s with buttons := (s.setInput code pressed).buttons, stopped := (s.setInput code pressed).stopped } := by
  unfold State.setInput
  split_ifs <;> rfl

theorem State.Inv.setInput (h : s.Inv) (code : Nat) (pressed : Bool) : (s.setInput code pressed).Inv := by
  rw [State.setInput_changes]
  exact { h with }

theorem State.Inv.runFrame (h : s.Inv) (hrun : s.runFrame = .next t) : t.Inv := by
  obtain ⟨u, hu, hpasses, hdone, -, -⟩ := State.exists_runFrame h.driver
  rw [hu] at hrun
  cases hrun
  rw [← State.closeFrame_done hdone]
  exact h.closeFrame_of_passes hpasses

/-! ### Snapshots (R905) -/

theorem State.setState_getState (h : sameCart t s = true) : t.setState s.getState = .ok s := if_pos h

theorem State.setState_refuses (h : ¬ sameCart t s = true) : t.setState s.getState = .error .notOfThisCartridge :=
  if_neg h

/-- A step keeps the header and the image of the cartridge, so that it stays the same one (R204). -/
theorem sameCart_of_step (h : step s = .next t) : sameCart t s = true := by
  obtain ⟨u, hu, rfl⟩ := step_cases h
  unfold sameCart
  rw [State.closeFrame_cart, State.afterCpu_cart]
  exact decide_eq_true (State.cpuStep_effect hu).1.identity

/-! ### Buttons (R909) -/

section

variable {code : Nat}

theorem State.setInput_ignored (h : 7 < code) (s : State) (pressed : Bool) : s.setInput code pressed = s := if_pos h

theorem State.setInput_press (h : code ≤ 7) (s : State) :
    s.setInput code true = { s with buttons := resetBit code s.buttons, stopped := false } :=
  if_neg (Nat.not_lt.2 h)

theorem State.setInput_release (h : code ≤ 7) (s : State) :
    s.setInput code false = { s with buttons := setBit code s.buttons } :=
  if_neg (Nat.not_lt.2 h)

/-- A set bit reset and set again gives the byte back. -/
theorem setBit_resetBit {v : Byte} (h : v.getLsbD code = true) (hcode : code < 8) :
    setBit code (resetBit code v) = v := by
  refine BitVec.eq_of_getLsbD_eq fun k _ => ?_
  rw [getLsbD_setBit hcode, getLsbD_resetBit]
  by_cases hk : k = code
  · simp [hk, h]
  · simp [bne, beq_false_of_ne hk]

end

end

/-! ### The obligations on the driver and the host -/

/-- Settles O57: the loop's fuel covers a frame of passes of 4 cycles, and a pass counts at most 24. -/
theorem runFrameRunsOneFrame : Obligations.RunFrameRunsOneFrame := by
  refine ⟨fun s hs => ?_, fun s m => State.driverPass_eq⟩
  obtain ⟨u, hu, hpasses, hdone, hexcess, hcount⟩ := State.exists_runFrame hs
  have hbudget : Config.cyclesPerFrame = 70224 := rfl
  exact ⟨u, _, hu, hpasses, hdone, rfl, by simp only [hbudget]; omega, by simp only [hbudget]; omega⟩

/-- Settles O39: a reset and a load give the reset values and a legal cartridge; a button and a snapshot touch nothing
of the invariant; a frame is passes of the loop and the end of the frame, as steps are. -/
theorem hostOperationsKeepInvariant : Obligations.HostOperationsKeepInvariant := by
  refine ⟨resetMeetsInvariant, fun s h => h.resetMachine, fun s t bytes h => h.loadRom, fun s code pressed h =>
    h.setInput code pressed, fun s t h => h.runFrame, fun s t u _ ht hset => ?_⟩
  by_cases hsame : sameCart s t = true
  · rw [State.setState_getState hsame] at hset
    cases hset
    exact ht
  · rw [State.setState_refuses hsame] at hset
    cases hset

/-- Settles O58: a press is `resetBit` and a release `setBit` of the buttons. -/
theorem buttonInput : Obligations.ButtonInput := by
  refine fun s code pressed =>
    ⟨fun h => State.setInput_ignored h s pressed, fun h => ?_, fun h => ?_, fun h hup => ?_⟩
  · rw [State.setInput_press h]
    exact ⟨rfl, fun k _ => getLsbD_resetBit code s.buttons k⟩
  · rw [State.setInput_release h]
    exact ⟨rfl, fun k _ => getLsbD_setBit (by omega) s.buttons k⟩
  · rw [State.setInput_press h, State.setInput_release h]
    exact setBit_resetBit hup (by omega)

/-- Settles O60: a token is taken exactly where the cartridges are the same, as they are across a step. -/
theorem snapshotRoundTrip : Obligations.SnapshotRoundTrip :=
  ⟨fun _ _ => State.setState_getState,
    fun _ _ h => State.setState_getState (sameCart_of_step h),
    fun _ _ h => ⟨_, State.setState_refuses (Bool.eq_false_iff.1 h)⟩,
    fun _ _ => ⟨_, rfl⟩⟩

/-- No line of an empty frame buffer has been rendered, so its bytes are 0x00 (R150). -/
theorem State.frameByte_of_nil {s : State} (h : s.frame = []) (k : Nat) : s.frameByte k = 0x00#8 := by
  have hk : k % 4 < 4 := Nat.mod_lt _ (by decide)
  unfold State.frameByte
  rw [h]
  show [0#8, 0#8, 0#8, 0#8].getD (k % 4) 0 = 0x00#8
  interval_cases k % 4 <;> rfl

/-- Settles O59: the reset procedure is `State.reset` but for the fields it names. -/
theorem resetProcedure : Obligations.ResetProcedure := by
  refine fun s => ⟨⟨rfl, rfl, rfl, rfl, rfl, rfl, rfl, rfl, rfl, rfl⟩, ⟨rfl, rfl, rfl, rfl, rfl⟩, fun a => rfl,
    ⟨rfl, rfl, rfl, rfl⟩, ⟨rfl, rfl⟩, ⟨rfl, rfl⟩, fun hnone => ?_, fun c => State.resetMachine_cart,
    ⟨rfl, rfl, rfl, State.frameByte_of_nil rfl⟩⟩
  rw [State.resetMachine, hnone, Option.map_none]

/-! ### The obligation on the encoded words -/

/-- Settles O4: each word is the encoding of its instruction, which decodes back (O1). -/
theorem wordsOfTheEncodings : Obligations.WordsOfTheEncodings :=
  ⟨decodeEncode .ld_b_c [], decodeEncode (.ld_mhl_n 0x7F#8) [], decodeEncode (.ld_mnn_sp 0xC100#16) [],
    decodeEncode .push_af [], decodeEncode .adc_a_mhl [], decodeEncode (.cp_n 0x3C#8) [], decodeEncode .add_hl_sp [],
    decodeEncode (.add_sp_e 0xFE#8) [], decodeEncode .rla [], decodeEncode .rl_c [], decodeEncode .bit_7_h [],
    decodeEncode .set_1_e [], decodeEncode (.jr_z_e 0xFE#8) [], decodeEncode (.call_nn 0x1234#16) [],
    decodeEncode .rst_28 [], decodeEncode .halt [], decodeEncode .undefined_dd []⟩

end Sys2Proof.Machine
